-- ==== Sys2Proof/Word.lean ====
section
/-! DEFINITION. The unsigned widths of the block (R7): a byte, a 16-bit and a 32-bit value; and the two opaque
operand types of the host interface. -/

namespace Sys2Proof

/-- R6, R7: a byte is 8 bits, bit 0 least significant. -/
abbrev Byte := BitVec 8

/-- R7: the spec's `UInt16` (CRC register, table entries, command codes, the CurrentPower value). -/
abbrev Half := BitVec 16

/-- R7: the spec's `UInt32` (the TotalEnergy value). -/
abbrev Word := BitVec 32

/-- R5, D39: `INTERFACE_ID`, any type with decidable equality; only equality is used (R180).
DESIGN CHOICE, log 14: a name is a list of bytes. -/
abbrev InterfaceId := List Byte

/-- R84, R188: a transport error signal, opaque. DESIGN CHOICE, log 14: a list of bytes. -/
abbrev Signal := List Byte

end Sys2Proof
end

