-- ==== Sys2Proof/Config.lean ====
section
/-! DEFINITION. What is fixed for the machine: the values R5 and R33 give the control registers of this hardware,
and the free values of the host (R8 "draws"). -/

namespace Sys2Proof

/-- R33: the block's control registers, fixed at configuration time; no event writes them.
(N_SESSIONS, the fifth, is the number of session records the state holds: log 11.) -/
structure ConfigRegs where
  /-- POLY -/
  poly              : Half
  /-- POLL_INTERVAL, legal when at least 1 -/
  pollInterval      : Nat
  /-- RECONNECT_INTERVAL, legal when at least 1 -/
  reconnectInterval : Nat
  /-- TESTER_ID_CODE, legal when none or a code other than 0x1705 and 0x1009 -/
  testerIdCode      : Option Half
deriving DecidableEq, Repr

namespace Config

/-- R5: CRC_INIT_VALUE, "CRC register initialized to 0"; not a free parameter. -/
def crcInitValue : Half := 0x0000#16

/-- R5: the registers of this hardware: POLY 0xA001, both intervals 5, TESTER_ID_CODE none (its default; log 13). -/
def thisHardware : ConfigRegs where
  poly := 0xA001#16
  pollInterval := 5
  reconnectInterval := 5
  testerIdCode := none

/-- N_SESSIONS at reset. R5: OPEN, at least 1. DESIGN CHOICE, log 12: 2, as in 95_test_vectors.md.
Statements hold for every number of records. -/
def nSessions : Nat := 2

/-- R240, D28: the result of an `open` call, a draw under no law: a FREE VALUE at the draw counter (log 10). -/
opaque freeOpen : Nat → Bool

/-- R240, D29: the result of a `write` call, any integer, a draw under no law: a FREE VALUE at the draw counter
(log 10). -/
opaque freeWrite : Nat → Int

end Config

end Sys2Proof
end

