-- ==== Sys2Proof/Syntax.lean ====
section
/-! DEFINITION. The block's instructions, one constructor per row of spec/opcode_table.json: eleven input events
(R84), three request frames (R71) and six classes of received buffer (R81); their encoded form; and the names the
codec's results use (R122, R230). -/

namespace Sys2Proof

/-- R77: CommandId. -/
inductive CommandId where
  | totalEnergy
  | currentPower
  | testerId
deriving DecidableEq, Repr

/-- R160: the two commands the registry has an entry for. -/
inductive Registered where
  | totalEnergy
  | currentPower
deriving DecidableEq, Repr

/-- R81 rows 1 to 5: why a gate of PARSE rejects a buffer. -/
inductive GateError where
  | frameShort
  | frameHeader
  | frameSize
  | crcLo
  | crcHi
deriving DecidableEq, Repr

/-- R230: the error codes. -/
inductive ErrorCode where
  | openFail
  | writeShort
  | transportError
  | transportClosed
  | frameShort
  | frameHeader
  | frameSize
  | crcLo
  | crcHi
  | decodeLen
  | configIfaceInUse
deriving DecidableEq, Repr

/-- R230: the source's error classes (a) to (e). -/
inductive ErrorClass where
  | transport
  | framing
  | integrity
  | decode
  | configuration
deriving DecidableEq, Repr

/-- R122: the result of PARSE. -/
inductive Verdict where
  | err (e : ErrorCode)
  | noDispatch
  | totalEnergy (v : Word)
  | currentPower (v : Half)
  | ignored (code : Half)
deriving DecidableEq, Repr

/-- The instructions. `link` is the session a received frame arrives on; `trailer` is the byte at offset L+6,
which R83 leaves unchecked. -/
inductive Instr where
  /-- REQ_TOTAL_ENERGY, R120: `02 05 02 17 05 crcLo crcHi 03`. -/
  | reqTotalEnergy
  /-- REQ_CURRENT_POWER, R120: `02 05 02 10 09 crcLo crcHi 03`. -/
  | reqCurrentPower
  /-- REQ_TESTER_ID, R121: the request frame of TESTER_ID_CODE. -/
  | reqTesterId
  /-- RSP_TOTAL_ENERGY, R161: L = 6, code 0x1705. -/
  | rspTotalEnergy (link : Nat) (value : Word) (trailer : Byte)
  /-- RSP_CURRENT_POWER, R162: L = 4, code 0x1009. -/
  | rspCurrentPower (link : Nat) (value : Half) (trailer : Byte)
  /-- RSP_NO_DISPATCH, R125: a valid frame with L at most 2. -/
  | rspNoDispatch (link : Nat) (payload : List Byte) (trailer : Byte)
  /-- RSP_DECODE_LEN, R163: a registered code with the wrong L; `rest` is the payload after the code. -/
  | rspDecodeLen (link : Nat) (command : Registered) (rest : List Byte) (trailer : Byte)
  /-- RSP_UNKNOWN, R164: a code the registry does not hold. -/
  | rspUnknown (link : Nat) (code : Half) (rest : List Byte) (trailer : Byte)
  /-- RSP_ILLEGAL, R122: a buffer a framing or CRC gate rejects, with the gate that decides. -/
  | rspIllegal (link : Nat) (gate : GateError) (buf : List Byte)
  /-- RESET, tag 0x00, R260. -/
  | reset
  /-- CRC_INIT(poly), tag 0x01, R101. -/
  | crcInit (poly : Half)
  /-- CRC_COMPUTE(bytes), tag 0x02, R102. -/
  | crcCompute (bytes : List Byte)
  /-- BUILD(cmd), tag 0x03, R120 and R121. -/
  | build (cmd : CommandId)
  /-- PARSE(buf), tag 0x04, R122. -/
  | parse (buf : List Byte)
  /-- SETUP(s, iface), tag 0x10, R180. -/
  | setup (n : Nat) (iface : InterfaceId)
  /-- TEARDOWN(s), tag 0x11, R191. -/
  | teardown (n : Nat)
  /-- TICK(s), tag 0x12, R185. -/
  | tick (n : Nat)
  /-- DATA(s, chunk), tag 0x13, R190. -/
  | data (n : Nat) (chunk : List Byte)
  /-- ERROR(s, sig), tag 0x14, R188. -/
  | error (n : Nat) (sig : Signal)
  /-- CLOSED(s), tag 0x15, R189. -/
  | closed (n : Nat)
deriving DecidableEq, Repr

/-- An instruction in encoded form, with the channel it comes by: an event tag and a frame's STX are both bytes and
0x02 is one of each, so bytes alone do not tell them apart (log 4). -/
inductive Input where
  /-- An event record: the tag byte of R84 and the operands (layout: log 3). -/
  | event (record : List Byte)
  /-- A request frame of R71 asked of the block: "asks the core to produce request frames to write" (R3). -/
  | request (frame : List Byte)
  /-- A buffer received on the link of session `link` (R73, R81). -/
  | received (link : Nat) (buf : List Byte)
deriving DecidableEq, Repr

/-- Why the decoder rejects an encoded input. -/
inductive DecodeError where
  /-- An event record without a tag byte. -/
  | emptyRecord
  /-- A tag byte R84 does not list. -/
  | unknownTag (tag : Byte)
  /-- Operand bytes missing or left over. -/
  | badOperands (tag : Byte)
  /-- A CommandId byte that stands for no command of R77. -/
  | badCommand (b : Byte)
  /-- Bytes that are no request frame of R71 with a code of R77. -/
  | notARequest
deriving DecidableEq, Repr

end Sys2Proof
end

