-- ==== Sys2Proof/Machine/Operands.lean ====
section
/-! DEFINITION. Operand assembly: byte order (R52 to R54), buffer reads and slices (R6, R56, R59), and the byte
fields of requests, responses and event records (R78 to R80). -/

namespace Sys2Proof.Machine

/-- `v[7:0]`. -/
def lo8 (v : Half) : Byte := v.extractLsb' 0 8

/-- `v[15:8]`. -/
def hi8 (v : Half) : Byte := v.extractLsb' 8 8

/-- R78, R80: `zext_16(hi) << 8 | zext_16(lo)`. -/
def be16 (hi lo : Byte) : Half := hi.setWidth 16 <<< 8 ||| lo.setWidth 16

/-- R80: `zext_32(b3) << 24 | zext_32(b2) << 16 | zext_32(b1) << 8 | zext_32(b0)`. -/
def be32 (b3 b2 b1 b0 : Byte) : Word :=
  b3.setWidth 32 <<< 24 ||| b2.setWidth 32 <<< 16 ||| b1.setWidth 32 <<< 8 ||| b0.setWidth 32

/-- The big-endian bytes of a 16-bit value (R52). -/
def bytesOfHalf (v : Half) : List Byte := [hi8 v, lo8 v]

/-- The big-endian bytes of a 32-bit value (R54). -/
def bytesOfWord (v : Word) : List Byte :=
  [v.extractLsb' 24 8, v.extractLsb' 16 8, v.extractLsb' 8 8, v.extractLsb' 0 8]

/-- `buf[i]`. `oob` is what a read past the end would give: no rule makes one (R59), and a statement says that
PARSE's verdict is the same whatever it is. -/
def readByte (oob : Byte) (buf : List Byte) (i : Nat) : Byte := buf.getD i oob

/-- R6: `buf[a..b]`, indices a through b inclusive, empty when b < a. -/
def slice (buf : List Byte) (a b : Nat) : List Byte := (buf.drop a).take (b + 1 - a)

/-- The record field of a session index: four bytes, big-endian (log 3). -/
def bytesOfIndex (n : Nat) : List Byte := bytesOfWord (BitVec.ofNat 32 n)

/-- The session index of a record field. -/
def indexOfBytes (b3 b2 b1 b0 : Byte) : Nat := (be32 b3 b2 b1 b0).toNat

end Sys2Proof.Machine
end

