-- ==== Sys2Proof/Machine/Crc.lean ====
section
/-! DEFINITION. The CRC-16 engine's pure functions (R100, R102), and the bit-serial form of R107. -/

namespace Sys2Proof.Machine

/-- R20, R50: 256 entries of 16 bits. -/
abbrev CrcTable := Vector Half 256

/-- One round of R100: the bit shifted out is bit 0 before the shift. -/
def crcRound (poly c : Half) : Half :=
  if c.getLsbD 0 then (c >>> 1) ^^^ poly else c >>> 1

/-- R100: CRC_TABLE_ENTRY(poly, i), eight rounds from `zext_16(i)`. -/
def crcTableEntry (poly : Half) (i : Byte) : Half :=
  (crcRound poly)^[8] (i.setWidth 16)

/-- R101: the table of a polynomial. -/
def crcTableOf (poly : Half) : CrcTable :=
  Vector.ofFn fun i => crcTableEntry poly (BitVec.ofNat 8 i.val)

/-- R8, R56: `TableRead(i)`, one whole entry; an 8-bit index is always in range (R57). -/
def tableRead (t : CrcTable) (i : Byte) : Half := t[i.toNat]

/-- R102: the running register after one byte. -/
def crcStep (t : CrcTable) (r : Half) (b : Byte) : Half :=
  let idx := (r ^^^ b.setWidth 16) &&& 0x00FF#16
  (r >>> 8) ^^^ tableRead t (lo8 idx)

/-- R102: CRC_COMPUTE(bytes) with the table `t`; no final XOR. -/
def crcOf (t : CrcTable) (bytes : List Byte) : Half :=
  bytes.foldl (crcStep t) Config.crcInitValue

/-- R107: the bit-serial register after one byte. -/
def crcStepBitwise (poly : Half) (r : Half) (b : Byte) : Half :=
  (crcRound poly)^[8] (r ^^^ b.setWidth 16)

/-- R107: the bit-serial reflected CRC, the engine's executor twin. -/
def crcBitwise (poly : Half) (bytes : List Byte) : Half :=
  bytes.foldl (crcStepBitwise poly) 0x0000#16

end Sys2Proof.Machine
end

