-- ==== Sys2Proof/Machine/Frames.lean ====
section
/-! DEFINITION. The frame formats and the registry as pure functions: code map (R77), request and response frames
(R71, R73, R76), the gates (R81 rows 1 to 5), DISPATCH and the decoders (R160 to R164), PARSE (R122), and the error
numbers (R230). -/

namespace Sys2Proof.Machine

/-- What the wire forms depend on: the CRC table in use and the parameter TESTER_ID_CODE. -/
structure WireContext where
  table        : CrcTable
  testerIdCode : Option Half
deriving DecidableEq, Repr

/-- R77: the wire code of a registered command. -/
def registeredCode : Registered → Half
  | .totalEnergy => 0x1705#16
  | .currentPower => 0x1009#16

/-- R77: the expected response length of a registered command. -/
def expectedLen : Registered → Nat
  | .totalEnergy => 6
  | .currentPower => 4

/-- R23, R160: the registry, a constant table with one row (code, expected L, command) per command. -/
def registry : List (Half × Nat × Registered) :=
  [.totalEnergy, .currentPower].map fun c => (registeredCode c, expectedLen c, c)

/-- The registry's command for a wire code, if the code is recognised. -/
def registryFind (code : Half) : Option Registered :=
  (registry.find? fun row => row.1 == code).map fun row => row.2.2

/-- R77, R121: CODE(cmd); TesterId's is the parameter TESTER_ID_CODE. -/
def codeOf (testerIdCode : Option Half) : CommandId → Option Half
  | .totalEnergy => some (registeredCode .totalEnergy)
  | .currentPower => some (registeredCode .currentPower)
  | .testerId => testerIdCode

/-- R120: the CRC input of a request, `[0x05, 0x02, code[15:8], code[7:0]]`. -/
def requestBody (code : Half) : List Byte := 0x05#8 :: 0x02#8 :: bytesOfHalf code

/-- R71, R120: the request frame of a code. -/
def requestFrame (t : CrcTable) (code : Half) : List Byte :=
  let crc := crcOf t (requestBody code)
  0x02#8 :: requestBody code ++ [lo8 crc, hi8 crc, 0x03#8]

/-- R73, R76: the CRC input of a response: ADDR, FUNC, LEN and the payload. -/
def responseBody (payload : List Byte) : List Byte :=
  0x06#8 :: 0x01#8 :: BitVec.ofNat 8 payload.length :: payload

/-- R73: the response frame of a payload, with the correct CRC. -/
def responseFrame (t : CrcTable) (payload : List Byte) (trailer : Byte) : List Byte :=
  let crc := crcOf t (responseBody payload)
  0x02#8 :: responseBody payload ++ [lo8 crc, hi8 crc, trailer]

/-- R75: `L = buf[3]`, unsigned. -/
def lenField (oob : Byte) (buf : List Byte) : Nat := (readByte oob buf 3).toNat

/-- R81 rows 1 to 5, R122: the first gate that rejects, or none for a valid frame. The trailer is not read (R83). -/
def gateError (oob : Byte) (t : CrcTable) (buf : List Byte) : Option GateError :=
  let len := lenField oob buf
  let crc := crcOf t (slice buf 1 (len + 3))
  if buf.length < 4 then some .frameShort
  else if readByte oob buf 0 ≠ 0x02#8 ∨ readByte oob buf 1 ≠ 0x06#8 ∨ readByte oob buf 2 ≠ 0x01#8 then
    some .frameHeader
  else if buf.length ≠ len + 7 then some .frameSize
  else if readByte oob buf (len + 4) ≠ lo8 crc then some .crcLo
  else if readByte oob buf (len + 5) ≠ hi8 crc then some .crcHi
  else none

/-- R230: the error code of a gate. -/
def gateCode : GateError → ErrorCode
  | .frameShort => .frameShort
  | .frameHeader => .frameHeader
  | .frameSize => .frameSize
  | .crcLo => .crcLo
  | .crcHi => .crcHi

/-- R161: DECODE_TOTAL_ENERGY(buf)'s value. -/
def decodeTotalEnergy (oob : Byte) (buf : List Byte) : Word :=
  be32 (readByte oob buf 6) (readByte oob buf 7) (readByte oob buf 8) (readByte oob buf 9)

/-- R162: DECODE_CURRENT_POWER(buf)'s value. -/
def decodeCurrentPower (oob : Byte) (buf : List Byte) : Half :=
  be16 (readByte oob buf 6) (readByte oob buf 7)

/-- R160: DISPATCH(code, L, buf). -/
def dispatch (oob : Byte) (code : Half) (len : Nat) (buf : List Byte) : Verdict :=
  match registryFind code with
  | none => .ignored code
  | some c =>
    if len ≠ expectedLen c then .err .decodeLen
    else match c with
      | .totalEnergy => .totalEnergy (decodeTotalEnergy oob buf)
      | .currentPower => .currentPower (decodeCurrentPower oob buf)

/-- R78: the command code of a frame, bytes 4 and 5. -/
def codeField (oob : Byte) (buf : List Byte) : Half := be16 (readByte oob buf 4) (readByte oob buf 5)

/-- R122: PARSE(buf) with the table `t`; `oob` as in `readByte`. -/
def parseReading (oob : Byte) (t : CrcTable) (buf : List Byte) : Verdict :=
  match gateError oob t buf with
  | some g => .err (gateCode g)
  | none =>
    let len := lenField oob buf
    if len ≤ 2 then .noDispatch else dispatch oob (codeField oob buf) len buf

/-- R122: PARSE(buf) with the table `t`. -/
def parseFrame (t : CrcTable) (buf : List Byte) : Verdict := parseReading 0x00#8 t buf

/-- R230: the spec's number of each error. -/
def errorNumber : ErrorCode → Byte
  | .openFail => 0x01#8
  | .writeShort => 0x02#8
  | .transportError => 0x03#8
  | .transportClosed => 0x04#8
  | .frameShort => 0x10#8
  | .frameHeader => 0x11#8
  | .frameSize => 0x12#8
  | .crcLo => 0x20#8
  | .crcHi => 0x21#8
  | .decodeLen => 0x30#8
  | .configIfaceInUse => 0x40#8

/-- R230: the class of each error. -/
def errorClass : ErrorCode → ErrorClass
  | .openFail => .transport
  | .writeShort => .transport
  | .transportError => .transport
  | .transportClosed => .transport
  | .frameShort => .framing
  | .frameHeader => .framing
  | .frameSize => .framing
  | .crcLo => .integrity
  | .crcHi => .integrity
  | .decodeLen => .decode
  | .configIfaceInUse => .configuration

end Sys2Proof.Machine
end

