-- ==== Sys2Proof/WellFormed.lean ====
section
/-! DEFINITION. Which instructions have an encoding: the operand ranges of the wire forms (R73, R81, R121) and of the
event records (log 3). -/

namespace Sys2Proof

/-- A session index fits the record field of four bytes (log 3). -/
def indexFits (n : Nat) : Bool := n < 2 ^ 32

/-- The checks, per instruction. A response's `link` is not part of its bytes and has no bound. -/
def wellFormed (w : Machine.WireContext) : Instr → Bool
  | .reqTotalEnergy => true
  | .reqCurrentPower => true
  | .reqTesterId =>
    match w.testerIdCode with
    | some code => Machine.registryFind code == none
    | none => false
  | .rspTotalEnergy _ _ _ => true
  | .rspCurrentPower _ _ _ => true
  | .rspNoDispatch _ payload _ => payload.length ≤ 2
  | .rspDecodeLen _ command rest _ =>
    1 ≤ rest.length && rest.length ≤ 253 && rest.length + 2 != Machine.expectedLen command
  | .rspUnknown _ code rest _ =>
    1 ≤ rest.length && rest.length ≤ 253 && Machine.registryFind code == none
  | .rspIllegal _ gate buf => Machine.gateError 0x00#8 w.table buf == some gate
  | .reset => true
  | .crcInit _ => true
  | .crcCompute _ => true
  | .build _ => true
  | .parse _ => true
  | .setup n _ => indexFits n
  | .teardown n => indexFits n
  | .tick n => indexFits n
  | .data n _ => indexFits n
  | .error n _ => indexFits n
  | .closed n => indexFits n

end Sys2Proof
end

