-- ==== Sys2Proof/Decode.lean ====
section
/-! DEFINITION. The decoder of the three channels (event records: R84, log 3; request frames: R71; received buffers:
R73 and R81), total on any bytes; after it the encoder; and the host's numbering of table words. -/

namespace Sys2Proof

/-- The CommandId byte of a BUILD record: the order of R77 (log 3). -/
def decodeCommand (b : Byte) : Option CommandId :=
  if b = 0x00#8 then some .totalEnergy
  else if b = 0x01#8 then some .currentPower
  else if b = 0x02#8 then some .testerId
  else none

/-- A record of a session index and nothing after it. -/
def decodeIndexOnly (tag : Byte) (k : Nat → Instr) : List Byte → Except DecodeError Instr
  | [b3, b2, b1, b0] => .ok (k (Machine.indexOfBytes b3 b2 b1 b0))
  | _ => .error (.badOperands tag)

/-- A record of a session index and a byte sequence, which is the rest of the record. -/
def decodeIndexAndBytes (tag : Byte) (k : Nat → List Byte → Instr) : List Byte → Except DecodeError Instr
  | b3 :: b2 :: b1 :: b0 :: rest => .ok (k (Machine.indexOfBytes b3 b2 b1 b0) rest)
  | _ => .error (.badOperands tag)

/-- The operands of a RESET record: none. -/
def decodeReset : List Byte → Except DecodeError Instr
  | [] => .ok .reset
  | _ => .error (.badOperands 0x00#8)

/-- The operands of a CRC_INIT record: the polynomial, high byte first. -/
def decodeCrcInit : List Byte → Except DecodeError Instr
  | [hi, lo] => .ok (.crcInit (Machine.be16 hi lo))
  | _ => .error (.badOperands 0x01#8)

/-- The operand of a BUILD record: one CommandId byte. -/
def decodeBuild : List Byte → Except DecodeError Instr
  | [b] =>
    match decodeCommand b with
    | some cmd => .ok (.build cmd)
    | none => .error (.badCommand b)
  | _ => .error (.badOperands 0x03#8)

/-- R84: an event by its tag. -/
def decodeEvent : List Byte → Except DecodeError Instr
  | [] => .error .emptyRecord
  | tag :: ops =>
    if tag = 0x00#8 then decodeReset ops
    else if tag = 0x01#8 then decodeCrcInit ops
    else if tag = 0x02#8 then .ok (.crcCompute ops)
    else if tag = 0x03#8 then decodeBuild ops
    else if tag = 0x04#8 then .ok (.parse ops)
    else if tag = 0x10#8 then decodeIndexAndBytes tag .setup ops
    else if tag = 0x11#8 then decodeIndexOnly tag .teardown ops
    else if tag = 0x12#8 then decodeIndexOnly tag .tick ops
    else if tag = 0x13#8 then decodeIndexAndBytes tag .data ops
    else if tag = 0x14#8 then decodeIndexAndBytes tag .error ops
    else if tag = 0x15#8 then decodeIndexOnly tag .closed ops
    else .error (.unknownTag tag)

/-- R71, R77: a request frame, every byte as BUILD makes it, whose code is one of R77's. -/
def decodeRequest (w : Machine.WireContext) (frame : List Byte) : Except DecodeError Instr :=
  let code := Machine.be16 (Machine.readByte 0x00#8 frame 3) (Machine.readByte 0x00#8 frame 4)
  if frame ≠ Machine.requestFrame w.table code then .error .notARequest
  else match Machine.registryFind code with
    | some .totalEnergy => .ok .reqTotalEnergy
    | some .currentPower => .ok .reqCurrentPower
    | none => if w.testerIdCode = some code then .ok .reqTesterId else .error .notARequest

/-- R81: the class of a received buffer, rows 1 to 5 by the gates and rows 6 to 10 by L and the code. -/
def decodeResponse (t : Machine.CrcTable) (link : Nat) (buf : List Byte) : Instr :=
  match Machine.gateError 0x00#8 t buf with
  | some gate => .rspIllegal link gate buf
  | none =>
    let len := Machine.lenField 0x00#8 buf
    let trailer := Machine.readByte 0x00#8 buf (len + 6)
    let code := Machine.codeField 0x00#8 buf
    if len ≤ 2 then .rspNoDispatch link (Machine.slice buf 4 (len + 3)) trailer
    else match Machine.registryFind code with
      | none => .rspUnknown link code (Machine.slice buf 6 (len + 3)) trailer
      | some c =>
        if len ≠ Machine.expectedLen c then .rspDecodeLen link c (Machine.slice buf 6 (len + 3)) trailer
        else match c with
          | .totalEnergy => .rspTotalEnergy link (Machine.decodeTotalEnergy 0x00#8 buf) trailer
          | .currentPower => .rspCurrentPower link (Machine.decodeCurrentPower 0x00#8 buf) trailer

/-- The decoder of an encoded input. -/
def decode (w : Machine.WireContext) : Input → Except DecodeError Instr
  | .event record => decodeEvent record
  | .request frame => decodeRequest w frame
  | .received link buf => .ok (decodeResponse w.table link buf)

/-- The CommandId byte of a BUILD record (log 3). -/
def encodeCommand : CommandId → Byte
  | .totalEnergy => 0x00#8
  | .currentPower => 0x01#8
  | .testerId => 0x02#8

/-- The encoder, from R71, R73 and R84. -/
def encode (w : Machine.WireContext) : Instr → Input
  | .reqTotalEnergy => .request (Machine.requestFrame w.table (Machine.registeredCode .totalEnergy))
  | .reqCurrentPower => .request (Machine.requestFrame w.table (Machine.registeredCode .currentPower))
  | .reqTesterId => .request ((w.testerIdCode.map (Machine.requestFrame w.table)).getD [])
  | .rspTotalEnergy link v trailer =>
    .received link (Machine.responseFrame w.table
      (Machine.bytesOfHalf (Machine.registeredCode .totalEnergy) ++ Machine.bytesOfWord v) trailer)
  | .rspCurrentPower link v trailer =>
    .received link (Machine.responseFrame w.table
      (Machine.bytesOfHalf (Machine.registeredCode .currentPower) ++ Machine.bytesOfHalf v) trailer)
  | .rspNoDispatch link payload trailer => .received link (Machine.responseFrame w.table payload trailer)
  | .rspDecodeLen link c rest trailer =>
    .received link (Machine.responseFrame w.table
      (Machine.bytesOfHalf (Machine.registeredCode c) ++ rest) trailer)
  | .rspUnknown link code rest trailer =>
    .received link (Machine.responseFrame w.table (Machine.bytesOfHalf code ++ rest) trailer)
  | .rspIllegal link _ buf => .received link buf
  | .reset => .event [0x00#8]
  | .crcInit poly => .event (0x01#8 :: Machine.bytesOfHalf poly)
  | .crcCompute bytes => .event (0x02#8 :: bytes)
  | .build cmd => .event [0x03#8, encodeCommand cmd]
  | .parse buf => .event (0x04#8 :: buf)
  | .setup n iface => .event (0x10#8 :: Machine.bytesOfIndex n ++ iface)
  | .teardown n => .event (0x11#8 :: Machine.bytesOfIndex n)
  | .tick n => .event (0x12#8 :: Machine.bytesOfIndex n)
  | .data n chunk => .event (0x13#8 :: Machine.bytesOfIndex n ++ chunk)
  | .error n sig => .event (0x14#8 :: Machine.bytesOfIndex n ++ sig)
  | .closed n => .event (0x15#8 :: Machine.bytesOfIndex n)

/-- How many operand bytes an event has at least, by its tag (log 3). -/
def operandBytes (tag : Byte) : Nat :=
  if tag = 0x01#8 then 2
  else if tag = 0x03#8 then 1
  else if 0x10#8 ≤ tag ∧ tag ≤ 0x15#8 then 4
  else 0

/-- The bytes of a table word, the first byte its least significant. -/
def tableBytes (nbits w : Nat) : List Byte :=
  (List.range (nbits / 8)).map fun i => BitVec.ofNat 8 (w >>> (8 * i))

/-- What the decoder needs before a state is given: this hardware's table and TESTER_ID_CODE. -/
def hardwareContext : Machine.WireContext where
  table := Machine.crcTableOf Config.thisHardware.poly
  testerIdCode := Config.thisHardware.testerIdCode

/-- The encoded input a table word stands for (log 5): a row of one byte is an event tag, here with its operand bytes
zero; a longer row is a frame, a request if its bytes are one and otherwise received on link 0. -/
def tableInput (w : Machine.WireContext) (nbits word : Nat) : Input :=
  let bytes := tableBytes nbits word
  match bytes with
  | [tag] => .event (tag :: List.replicate (operandBytes tag) 0x00#8)
  | _ =>
    match decodeRequest w bytes with
    | .ok _ => .request bytes
    | .error _ => .received 0 bytes

/-- The instruction the decoder reads from a table word. -/
def decodeTableWord (nbits w : Nat) : Option Instr :=
  match decode hardwareContext (tableInput hardwareContext nbits w) with
  | .ok i => some i
  | .error _ => none

end Sys2Proof
end

