-- ==== Sys2Proof/Machine/State.lean ====
section
/-! DEFINITION. The state: what 10_state.md gives the block (R20, R24, R32, R33), and the model's own record of the
boundary (inputs, outputs, host answers: logs 1, 7, 9, 10), all plain data; the outputs (R85); the reasons of a
refusal (R233); `State.reset` (R260). -/

namespace Sys2Proof.Machine

/-- R25: LinkState. -/
inductive LinkState where
  | disconnected
  | connected
deriving DecidableEq, Repr

/-- R26: a timer is the pair (armed, rem). -/
structure Timer where
  armed : Bool
  rem   : Nat
deriving DecidableEq, Repr

/-- R24: a session record. `poll` is (poll_armed, poll_rem), `reconnect` is (rc_armed, rc_rem). -/
structure Session where
  active    : Bool
  /-- INTERFACE_ID, "iface none" while the session is inactive (R24, R260). -/
  iface     : Option InterfaceId
  link      : LinkState
  poll      : Timer
  reconnect : Timer
deriving DecidableEq, Repr

/-- R24: the reset values of a session record. -/
def Session.reset : Session where
  active := false
  iface := none
  link := .disconnected
  poll := ⟨false, 0⟩
  reconnect := ⟨false, 0⟩

/-- R233: why an event is refused. A refusal of the spec is a next state (log 7). -/
inductive RefuseReason where
  /-- CRC_NOT_READY: CRC_COMPUTE, BUILD, PARSE or SETUP before CRC_INIT. -/
  | crcNotReady
  /-- CRC_REINIT: a second CRC_INIT. -/
  | crcReinit
  /-- TESTER_ID_UNKNOWN: BUILD(TesterId) with TESTER_ID_CODE = none. -/
  | testerIdUnknown
  /-- SETUP_ACTIVE: SETUP on an active session. -/
  | setupActive
  /-- BAD_SESSION: a session event with an index of N_SESSIONS or more. -/
  | badSession
  /-- The model's own: an encoded input that is no event of the spec (log 8). -/
  | undecodable (e : DecodeError)
deriving DecidableEq, Repr

/-- R9: how the last event ended. -/
inductive StepOutcome where
  | done
  | refused (r : RefuseReason)
deriving DecidableEq, Repr

/-- R230: what a DIAG records. -/
inductive DiagInfo where
  | iface (i : Option InterfaceId)
  | bytesWritten (k : Int)
  | signal (sig : Signal)
  | noInfo
  | chunk (buf : List Byte)
deriving DecidableEq, Repr

/-- R85: host calls and outputs; and the values the pure operations return to the host (R84, log 9). A call acts on
the transport of session `n`. -/
inductive Output where
  | openCall (n : Nat) (iface : Option InterfaceId)
  | writeCall (n : Nat) (frame : List Byte)
  | closeCall (n : Nat)
  /-- R85: "no rule makes this call". -/
  | flushCall (n : Nat)
  | conn (n : Nat) (b : Bool)
  | totalEnergy (n : Nat) (v : Word)
  | currentPower (n : Nat) (v : Half)
  | setupFail (n : Nat) (e : ErrorCode)
  | diag (n : Option Nat) (e : ErrorCode) (info : DiagInfo)
  /-- The result of CRC_COMPUTE (R102). -/
  | returnCrc (v : Half)
  /-- The result of BUILD (R120). -/
  | returnFrame (frame : List Byte)
  /-- The result of PARSE (R122). -/
  | returnVerdict (v : Verdict)
deriving DecidableEq, Repr

/-- The state of the machine. -/
structure State where
  /-- R33: control registers; no event writes them. -/
  cfg          : ConfigRegs
  /-- R20: crc_ready. -/
  crcReady     : Bool
  /-- R20: crc_poly; "no value" until CRC_INIT (log 15). -/
  crcPoly      : Option Half
  /-- R20: crc_table; "no value" until CRC_INIT (log 15). -/
  crcTable     : Option CrcTable
  /-- R24: the session records; N_SESSIONS is their number (log 11). -/
  sessions     : List Session
  /-- R32: the sticky refusal mark. -/
  refused      : Bool
  /-- Model: encoded inputs delivered and not yet taken, oldest first (log 1). -/
  inbox        : List Input
  /-- Model: host calls and outputs so far, oldest first (log 9). -/
  outbox       : List Output
  /-- Model: how the last event ended (log 7). -/
  outcome      : StepOutcome
  /-- Model: the host's lined-up results of `open`, next first (log 10). -/
  openAnswers  : List Bool
  /-- Model: the host's lined-up results of `write`, next first (log 10). -/
  writeAnswers : List Int
  /-- Model: how many free draws were taken (log 10). -/
  draws        : Nat
deriving DecidableEq, Repr

/-- R9, R231: "There is no fault outcome"; no instruction raises a fault, so there is no constructor. -/
inductive Fault
deriving DecidableEq, Repr

/-- Why the model stops without a next state. -/
inductive Refusal where
  /-- Raised by exec's arm of an instruction that has no meaning yet; no arm raises it now. Safe. -/
  | notModelled (mnemonic : String)
  /-- Raised by `step` in a state whose configuration R33 refuses ("the model is not instantiated"). Safe. -/
  | illegalConfiguration
deriving DecidableEq, Repr

/-- R260: the state after power-on: the CRC engine without a table, every session at its reset values, the mark
clear; the configuration of this hardware; nothing delivered, nothing sent. -/
def State.reset : State where
  cfg := Config.thisHardware
  crcReady := false
  crcPoly := none
  crcTable := none
  sessions := List.replicate Config.nSessions Session.reset
  refused := false
  inbox := []
  outbox := []
  outcome := .done
  openAnswers := []
  writeAnswers := []
  draws := 0

end Sys2Proof.Machine
end

