-- ==== Sys2Proof/Machine/Flags.lean ====
section
/-! DEFINITION. The Boolean state of R35 and who reads and writes it: crc_ready, the timers' armed flags (R26), the
connectivity level (R27), the refusal mark (R32, R233). The block has no arithmetic condition codes (R35). -/

namespace Sys2Proof.Machine

/-- R25: the number of a link state. -/
def linkNumber : LinkState → Nat
  | .disconnected => 0
  | .connected => 1

/-- R26: Arm(t, N). -/
def armedTimer (interval : Nat) : Timer := ⟨true, interval⟩

/-- R26: Disarm(t). -/
def disarmedTimer : Timer := ⟨false, 0⟩

/-- R24: N_SESSIONS, the number of session records (log 11). -/
def State.nSessions (s : State) : Nat := s.sessions.length

/-- The record of session `n`; the reset record where there is none, which CHECK keeps any event from reading. -/
def State.session (s : State) (n : Nat) : Session := s.sessions.getD n Session.reset

/-- R27: connected(s) = s.active and s.link == Connected. -/
def State.connected (s : State) (n : Nat) : Bool :=
  (s.session n).active && (s.session n).link == .connected

/-- The CRC table when crc_ready is set; none means "not crc_ready" (R102, R120, R122, R180). -/
def State.readyTable (s : State) : Option CrcTable := if s.crcReady then s.crcTable else none

/-- R8, R233: `refuse R`: only the sticky mark is written; the reason is the step's outcome (log 7). -/
def State.refuse (s : State) (r : RefuseReason) : State :=
  { s with refused := true, outcome := .refused r }

/-- R180: an interface in use by another active session. -/
def State.ifaceInUse (s : State) (n : Nat) (iface : InterfaceId) : Bool :=
  (List.range s.nSessions).any fun m =>
    m != n && (s.session m).active && (s.session m).iface == some iface

/-- R33, R233, R270: the configurations that are not refused. -/
def State.legalConfig (s : State) : Bool :=
  1 ≤ s.cfg.pollInterval && 1 ≤ s.cfg.reconnectInterval && s.sessions != [] &&
    match s.cfg.testerIdCode with
    | none => true
    | some code => registryFind code == none

end Sys2Proof.Machine
end

