-- ==== Sys2Proof/Machine/Ops.lean ====
section
/-! DEFINITION. The operations the meanings share: outputs and host calls (R8, R85), the end of a step with its one
refusal path (R9, R233; the block has no trap entry and no trap return, R236 and R237), CHECK (R180), the internal
actions of the link session (R181 to R187), and taking the next input. -/

namespace Sys2Proof.Machine

/-- R8: `emit O`. -/
def State.emit (s : State) (o : Output) : State := { s with outbox := s.outbox ++ [o] }

/-- Write the record of session `n`. -/
def State.setSession (s : State) (n : Nat) (r : Session) : State :=
  { s with sessions := s.sessions.set n r }

/-- R8, R240: the result of the host's next `open`: the next one lined up, or a free draw (log 10). -/
def State.nextOpen (s : State) : Bool := s.openAnswers.headD (Config.freeOpen s.draws)

/-- The state in which that result is used up. -/
def State.afterOpen (s : State) : State :=
  { s with
    openAnswers := s.openAnswers.tail
    draws := if s.openAnswers.isEmpty then s.draws + 1 else s.draws }

/-- R8, R240: the result of the host's next `write`: the next one lined up, or a free draw (log 10). -/
def State.nextWrite (s : State) : Int := s.writeAnswers.headD (Config.freeWrite s.draws)

/-- The state in which that result is used up. -/
def State.afterWrite (s : State) : State :=
  { s with
    writeAnswers := s.writeAnswers.tail
    draws := if s.writeAnswers.isEmpty then s.draws + 1 else s.draws }

/-- `call open(iface) -> ok` on the transport of session `n`. -/
def State.callOpen (s : State) (n : Nat) (iface : Option InterfaceId) : Bool × State :=
  (s.nextOpen, (s.emit (.openCall n iface)).afterOpen)

/-- `call write(f) -> k` on the transport of session `n`. -/
def State.callWrite (s : State) (n : Nat) (f : List Byte) : Int × State :=
  (s.nextWrite, (s.emit (.writeCall n f)).afterWrite)

/-- R8, R9, R233: the end of a step. A refusal keeps nothing the step wrote or emitted. -/
def finish (s : State) : Except RefuseReason State → Host.Outcome State Fault Refusal
  | .ok t => .next { t with outcome := .done }
  | .error r => .next (s.refuse r)

/-- 43_link_session.md: CHECK(s), then the event. -/
def onSession (n : Nat) (s : State) (act : Except RefuseReason State) :
    Host.Outcome State Fault Refusal :=
  finish s (if s.nSessions ≤ n then .error .badSession else act)

/-- CHECK(s), and R192: an event to an inactive session changes nothing and emits nothing. -/
def onActiveSession (n : Nat) (s : State) (act : Except RefuseReason State) :
    Host.Outcome State Fault Refusal :=
  onSession n s (if (s.session n).active then act else .ok s)

/-- R102, R120, R122: the operation needs crc_ready. -/
def withTable (s : State) (k : CrcTable → State) : Except RefuseReason State :=
  match s.readyTable with
  | none => .error .crcNotReady
  | some t => .ok (k t)

/-- R120, R121: BUILD(cmd). -/
def buildFrame (s : State) (cmd : CommandId) : Except RefuseReason (List Byte) :=
  match codeOf s.cfg.testerIdCode cmd with
  | none => .error .testerIdUnknown
  | some code =>
    match s.readyTable with
    | none => .error .crcNotReady
    | some t => .ok (requestFrame t code)

/-- R120: BUILD's frame is returned to the host. -/
def returnBuild (s : State) (cmd : CommandId) : Except RefuseReason State := do
  let f ← buildFrame s cmd
  return s.emit (.returnFrame f)

/-- R184: TX(s, f). Any result other than the frame's length is a short write, logged only. -/
def tx (n : Nat) (f : List Byte) (s : State) : State :=
  let (k, t) := s.callWrite n f
  if k = f.length then t else t.emit (.diag (some n) .writeShort (.bytesWritten k))

/-- R183: POLL(s): TotalEnergy, then CurrentPower, whatever the first write returned. -/
def poll (n : Nat) (s : State) : Except RefuseReason State := do
  let f ← buildFrame s .totalEnergy
  let t := tx n f s
  let g ← buildFrame t .currentPower
  return tx n g t

/-- R181: ENTER_CONNECTED(s). -/
def enterConnected (n : Nat) (s : State) : Except RefuseReason State := do
  let s1 := s.setSession n { s.session n with link := .connected, reconnect := disarmedTimer }
  let s2 ← poll n (s1.emit (.conn n true))
  return s2.setSession n { s2.session n with poll := armedTimer s.cfg.pollInterval }

/-- R182: ENTER_DISCONNECTED(s). -/
def enterDisconnected (n : Nat) (s : State) : State :=
  let r := s.session n
  (s.setSession n { r with
    link := .disconnected
    poll := disarmedTimer
    reconnect := armedTimer s.cfg.reconnectInterval }).emit (.conn n false)

/-- R186: POLL_FIRE(s). -/
def pollFire (n : Nat) (s : State) : Except RefuseReason State :=
  let r := s.session n
  poll n (s.setSession n { r with poll := { r.poll with rem := s.cfg.pollInterval } })

/-- R180, R187: a failed open: the diagnostic, and the reconnect timer armed. -/
def openFailed (n : Nat) (iface : Option InterfaceId) (s : State) : State :=
  let s1 := s.emit (.diag (some n) .openFail (.iface iface))
  s1.setSession n { s1.session n with reconnect := armedTimer s.cfg.reconnectInterval }

/-- R187: RECONNECT_FIRE(s). -/
def reconnectFire (n : Nat) (s : State) : Except RefuseReason State :=
  let r := s.session n
  let (ok, s1) := (s.setSession n { r with reconnect := disarmedTimer }).callOpen n r.iface
  if ok then enterConnected n s1 else .ok (openFailed n r.iface s1)

/-- R185: the body of TICK(s). A count of 0 would stay 0 (log 17); R28 (vi) keeps it from arising. -/
def tickTimers (n : Nat) (s : State) : Except RefuseReason State :=
  let r := s.session n
  if r.poll.armed then
    let s1 := s.setSession n { r with poll := { r.poll with rem := r.poll.rem - 1 } }
    if r.poll.rem - 1 = 0 then pollFire n s1 else .ok s1
  else if r.reconnect.armed then
    let s1 := s.setSession n { r with reconnect := { r.reconnect with rem := r.reconnect.rem - 1 } }
    if r.reconnect.rem - 1 = 0 then reconnectFire n s1 else .ok s1
  else .ok s

/-- R188, R189: a transport error or close: the diagnostic, and Disconnected if it was Connected. -/
def transportLost (n : Nat) (e : ErrorCode) (info : DiagInfo) (s : State) : State :=
  let s1 := s.emit (.diag (some n) e info)
  if (s1.session n).link = .connected then enterDisconnected n s1 else s1

/-- R190: what DATA emits for a verdict on `chunk`. -/
def forwardVerdict (n : Nat) (chunk : List Byte) (v : Verdict) (s : State) : State :=
  match v with
  | .err e => s.emit (.diag (some n) e (.chunk chunk))
  | .totalEnergy w => s.emit (.totalEnergy n w)
  | .currentPower h => s.emit (.currentPower n h)
  | .noDispatch => s
  | .ignored _ => s

/-- What an input is decoded with: the table in use, or before CRC_INIT that of POLY (log 6), and
TESTER_ID_CODE. -/
def State.wireContext (s : State) : WireContext where
  table := s.readyTable.getD (crcTableOf s.cfg.poly)
  testerIdCode := s.cfg.testerIdCode

/-- R58, R61: the next input, in arrival order, and the state that has taken it. -/
def State.takeInput (s : State) : Option (Input × State) :=
  match s.inbox with
  | [] => none
  | i :: rest => some (i, { s with inbox := rest })

end Sys2Proof.Machine
end

