-- ==== Sys2Proof/Machine/CrcEngine.lean ====
section
/-! DEFINITION. The CRC engine's events: CRC_INIT, CRC_COMPUTE. -/

namespace Sys2Proof.Machine

/-- R101: CRC_INIT(poly), accepted once after reset. -/
def execCrcInit (poly : Half) (s : State) : Host.Outcome State Fault Refusal :=
  finish s <|
    if s.crcReady then .error .crcReinit
    else .ok { s with crcTable := some (crcTableOf poly), crcPoly := some poly, crcReady := true }

/-- R102: CRC_COMPUTE(bytes). -/
def execCrcCompute (bytes : List Byte) (s : State) : Host.Outcome State Fault Refusal :=
  finish s <| withTable s fun t => s.emit (.returnCrc (crcOf t bytes))

end Sys2Proof.Machine
end

