-- ==== Sys2Proof/Machine/FrameCodec.lean ====
section
/-! DEFINITION. The frame codec's events, BUILD and PARSE, and the three request frames (log 4). -/

namespace Sys2Proof.Machine

/-- R120, R121: BUILD(cmd). -/
def execBuild (cmd : CommandId) (s : State) : Host.Outcome State Fault Refusal :=
  finish s (returnBuild s cmd)

/-- R122: PARSE(buf). -/
def execParse (buf : List Byte) (s : State) : Host.Outcome State Fault Refusal :=
  finish s <| withTable s fun t => s.emit (.returnVerdict (parseFrame t buf))

/-- REQ_TOTAL_ENERGY, R120. -/
def execReqTotalEnergy (s : State) : Host.Outcome State Fault Refusal :=
  finish s (returnBuild s .totalEnergy)

/-- REQ_CURRENT_POWER, R120. -/
def execReqCurrentPower (s : State) : Host.Outcome State Fault Refusal :=
  finish s (returnBuild s .currentPower)

/-- REQ_TESTER_ID, R121: refused while TESTER_ID_CODE is none. -/
def execReqTesterId (s : State) : Host.Outcome State Fault Refusal :=
  finish s (returnBuild s .testerId)

end Sys2Proof.Machine
end

