-- ==== Sys2Proof/Machine/LinkSession.lean ====
section
/-! DEFINITION. The link session's events: SETUP, TEARDOWN, TICK, DATA, ERROR, CLOSED. -/

namespace Sys2Proof.Machine

/-- R180: the part of SETUP after its refusals. -/
def setupSession (n : Nat) (iface : InterfaceId) (s : State) : Except RefuseReason State :=
  if s.ifaceInUse n iface then .ok (s.emit (.setupFail n .configIfaceInUse))
  else
    let s1 := s.setSession n { s.session n with active := true, iface := some iface }
    let (ok, s2) := s1.callOpen n (some iface)
    if ok then enterConnected n s2
    else .ok ((openFailed n (some iface) s2).emit (.conn n false))

/-- R180: SETUP(s, iface). -/
def execSetup (n : Nat) (iface : InterfaceId) (s : State) : Host.Outcome State Fault Refusal :=
  onSession n s <|
    match s.readyTable with
    | none => .error .crcNotReady
    | some _ => if (s.session n).active then .error .setupActive else setupSession n iface s

/-- R191: TEARDOWN(s). -/
def execTeardown (n : Nat) (s : State) : Host.Outcome State Fault Refusal :=
  onActiveSession n s <|
    let s1 := if (s.session n).link = .connected then s.emit (.closeCall n) else s
    .ok (s1.setSession n {
      active := false
      iface := none
      link := .disconnected
      poll := disarmedTimer
      reconnect := disarmedTimer })

/-- R185: TICK(s). -/
def execTick (n : Nat) (s : State) : Host.Outcome State Fault Refusal :=
  onActiveSession n s (tickTimers n s)

/-- R190: DATA(s, chunk). -/
def execData (n : Nat) (chunk : List Byte) (s : State) : Host.Outcome State Fault Refusal :=
  onActiveSession n s <| withTable s fun t => forwardVerdict n chunk (parseFrame t chunk) s

/-- R188: ERROR(s, sig). -/
def execError (n : Nat) (sig : Signal) (s : State) : Host.Outcome State Fault Refusal :=
  onActiveSession n s (.ok (transportLost n .transportError (.signal sig) s))

/-- R189: CLOSED(s). -/
def execClosed (n : Nat) (s : State) : Host.Outcome State Fault Refusal :=
  onActiveSession n s (.ok (transportLost n .transportClosed .noInfo s))

end Sys2Proof.Machine
end

