-- ==== Sys2Proof/Machine/Reset.lean ====
section
/-! DEFINITION. RESET. -/

namespace Sys2Proof.Machine

/-- R260: RESET. Every piece of the block's state at its reset value; the configuration is fixed before reset; no
output. What the host has delivered, and what it has received, is not the block's state (log 9). -/
def execReset (s : State) : Host.Outcome State Fault Refusal :=
  finish s <| .ok { s with
    crcReady := false
    crcPoly := none
    crcTable := none
    sessions := s.sessions.map fun _ => Session.reset
    refused := false }

end Sys2Proof.Machine
end

