-- ==== Sys2Proof/Machine/Responses.lean ====
section
/-! DEFINITION. The six classes of received buffer (R81), each with its own effect on the link it arrives on. That
PARSE and DATA do the same to the buffer is a statement about the model, not its definition. -/

namespace Sys2Proof.Machine

/-- RSP_TOTAL_ENERGY, R161. -/
def execRspTotalEnergy (link : Nat) (value : Word) (s : State) : Host.Outcome State Fault Refusal :=
  onActiveSession link s <| withTable s fun _ => s.emit (.totalEnergy link value)

/-- RSP_CURRENT_POWER, R162. -/
def execRspCurrentPower (link : Nat) (value : Half) (s : State) : Host.Outcome State Fault Refusal :=
  onActiveSession link s <| withTable s fun _ => s.emit (.currentPower link value)

/-- RSP_NO_DISPATCH, R125: nothing is output. -/
def execRspNoDispatch (link : Nat) (s : State) : Host.Outcome State Fault Refusal :=
  onActiveSession link s <| withTable s fun _ => s

/-- RSP_DECODE_LEN, R163: the diagnostic carries the chunk, which is the frame. -/
def execRspDecodeLen (link : Nat) (command : Registered) (rest : List Byte) (trailer : Byte) (s : State) :
    Host.Outcome State Fault Refusal :=
  onActiveSession link s <| withTable s fun t =>
    s.emit (.diag (some link) .decodeLen
      (.chunk (responseFrame t (bytesOfHalf (registeredCode command) ++ rest) trailer)))

/-- RSP_UNKNOWN, R164, R165: ignored silently. -/
def execRspUnknown (link : Nat) (s : State) : Host.Outcome State Fault Refusal :=
  onActiveSession link s <| withTable s fun _ => s

/-- RSP_ILLEGAL, R122, R124: discarded with the gate's diagnostic. -/
def execRspIllegal (link : Nat) (gate : GateError) (buf : List Byte) (s : State) :
    Host.Outcome State Fault Refusal :=
  onActiveSession link s <| withTable s fun _ => s.emit (.diag (some link) (gateCode gate) (.chunk buf))

end Sys2Proof.Machine
end

