-- ==== Sys2Proof/Machine/Dispatch.lean ====
section
/-! DEFINITION. The meaning of each instruction, one arm per constructor. -/

namespace Sys2Proof.Machine

def exec (i : Instr) (s : State) : Host.Outcome State Fault Refusal :=
  match i with
  -- request frames (R71)
  | .reqTotalEnergy => Sys2Proof.Machine.execReqTotalEnergy s
  | .reqCurrentPower => Sys2Proof.Machine.execReqCurrentPower s
  | .reqTesterId => Sys2Proof.Machine.execReqTesterId s
  -- received buffers (R81)
  | .rspTotalEnergy link value _ => Sys2Proof.Machine.execRspTotalEnergy link value s
  | .rspCurrentPower link value _ => Sys2Proof.Machine.execRspCurrentPower link value s
  | .rspNoDispatch link _ _ => Sys2Proof.Machine.execRspNoDispatch link s
  | .rspDecodeLen link command rest trailer => Sys2Proof.Machine.execRspDecodeLen link command rest trailer s
  | .rspUnknown link _ _ _ => Sys2Proof.Machine.execRspUnknown link s
  | .rspIllegal link gate buf => Sys2Proof.Machine.execRspIllegal link gate buf s
  -- events (R84)
  | .reset => Sys2Proof.Machine.execReset s
  | .crcInit poly => Sys2Proof.Machine.execCrcInit poly s
  | .crcCompute bytes => Sys2Proof.Machine.execCrcCompute bytes s
  | .build cmd => Sys2Proof.Machine.execBuild cmd s
  | .parse buf => Sys2Proof.Machine.execParse buf s
  | .setup n iface => Sys2Proof.Machine.execSetup n iface s
  | .teardown n => Sys2Proof.Machine.execTeardown n s
  | .tick n => Sys2Proof.Machine.execTick n s
  | .data n chunk => Sys2Proof.Machine.execData n chunk s
  | .error n sig => Sys2Proof.Machine.execError n sig s
  | .closed n => Sys2Proof.Machine.execClosed n s

end Sys2Proof.Machine
end

