-- ==== Sys2Proof/Machine/Step.lean ====
section
/-! DEFINITION. One step: the next input is taken, decoded and run (R58, R61). -/

namespace Sys2Proof.Machine

/-- One step. With nothing delivered the block waits (R242, R260: log 1). A configuration R33 refuses has no step
(log 11). An input that is no event of the spec is refused as R233 says (log 8). -/
def step (s : State) : Host.Outcome State Fault Refusal :=
  if s.legalConfig then
    match s.takeInput with
    | none => .next s
    | some (input, t) =>
      match decode s.wireContext input with
      | .ok i => exec i t
      | .error e => .next (t.refuse (.undecodable e))
  else .refused .illegalConfiguration

/-- The state in which the next step takes the table word `w` (log 2, log 5): it is put at the head of the inbox. -/
def State.withFetchWord (s : State) (nbits w : Nat) : State :=
  { s with inbox := tableInput s.wireContext nbits w :: s.inbox }

end Sys2Proof.Machine
end

