-- ==== Sys2Proof/Safety.lean ====
section
/-! DEFINITION. The terms claims use: a safe state (R35), the invariants of R20, R21, R28 and R29 between two events,
and a sequence of events run one after another. -/

namespace Sys2Proof.Machine

/-- R35: `refused` is "read by the model's safety predicate". -/
abbrev State.Safe (s : State) : Prop := s.refused = false

/-- R28 (vi): an armed timer has 1 ≤ rem ≤ its interval; a disarmed one is as R26's Disarm leaves it. -/
abbrev Timer.Inv (t : Timer) (interval : Nat) : Prop :=
  if t.armed then 1 ≤ t.rem ∧ t.rem ≤ interval else t.rem = 0

/-- R28 (i) to (vii), for one session record. -/
abbrev Session.Inv (r : Session) (cfg : ConfigRegs) : Prop :=
  (r.poll.armed = true → r.active = true ∧ r.link = .connected) ∧
  (r.reconnect.armed = true → r.active = true ∧ r.link = .disconnected) ∧
  (r.active = true → r.link = .connected → r.poll.armed = true) ∧
  (r.active = true → r.link = .disconnected → r.reconnect.armed = true) ∧
  ¬ (r.poll.armed = true ∧ r.reconnect.armed = true) ∧
  r.poll.Inv cfg.pollInterval ∧ r.reconnect.Inv cfg.reconnectInterval ∧
  (r.active = true → r.iface ≠ none) ∧
  (r.active = false → r = Session.reset)

/-- R20, R21, R101: the table is there exactly when crc_ready is set, and is the one CRC_INIT builds from
crc_poly. -/
abbrev State.CrcInv (s : State) : Prop :=
  (s.crcReady = false ∧ s.crcPoly = none ∧ s.crcTable = none) ∨
  (s.crcReady = true ∧ s.crcPoly ≠ none ∧ s.crcTable = s.crcPoly.map crcTableOf)

/-- R29: no two active sessions have equal iface. -/
abbrev State.IfaceInv (s : State) : Prop :=
  ∀ m < s.nSessions, ∀ n < s.nSessions, m ≠ n →
    (s.session m).active = true → (s.session n).active = true → (s.session m).iface ≠ (s.session n).iface

/-- The invariants that hold between two events. The fourth: a session exists only once the table does (R180). -/
abbrev State.Inv (s : State) : Prop :=
  s.CrcInv ∧ (∀ r ∈ s.sessions, r.Inv s.cfg) ∧ s.IfaceInv ∧
  ((∃ r ∈ s.sessions, r.active = true) → s.crcReady = true)

/-- crc_ready is set and the table in use is `t`. -/
abbrev State.Ready (s : State) (t : CrcTable) : Prop := s.crcReady = true ∧ s.crcTable = some t

/-- Session `n` exists and is active. -/
abbrev State.Live (s : State) (n : Nat) : Prop := n < s.nSessions ∧ (s.session n).active = true

/-- The session an instruction is addressed to, or the link a frame arrives on (R31). -/
def sessionOf : Instr → Option Nat
  | .reqTotalEnergy => none
  | .reqCurrentPower => none
  | .reqTesterId => none
  | .rspTotalEnergy link _ _ => some link
  | .rspCurrentPower link _ _ => some link
  | .rspNoDispatch link _ _ => some link
  | .rspDecodeLen link _ _ _ => some link
  | .rspUnknown link _ _ _ => some link
  | .rspIllegal link _ _ => some link
  | .reset => none
  | .crcInit _ => none
  | .crcCompute _ => none
  | .build _ => none
  | .parse _ => none
  | .setup n _ => some n
  | .teardown n => some n
  | .tick n => some n
  | .data n _ => some n
  | .error n _ => some n
  | .closed n => some n

/-- A host call that writes a frame. -/
def isWrite : Output → Bool
  | .writeCall _ _ => true
  | _ => false

/-- A host call that opens a transport. -/
def isOpen : Output → Bool
  | .openCall _ _ => true
  | _ => false

/-- A connectivity report. -/
def isConn : Output → Bool
  | .conn _ _ => true
  | _ => false

/-- R184, R195: the diagnostic of a write that returned `k` for a frame of `len` bytes. -/
def shortWrite (n len : Nat) (k : Int) : List Output :=
  if k = len then [] else [.diag (some n) .writeShort (.bytesWritten k)]

/-- R183, R184, R195: what one poll sends when its two writes return `k1` and `k2`. -/
def pollOutputs (t : CrcTable) (n : Nat) (k1 k2 : Int) : List Output :=
  [.writeCall n (requestFrame t 0x1705#16)] ++ shortWrite n 8 k1 ++
    [.writeCall n (requestFrame t 0x1009#16)] ++ shortWrite n 8 k2

/-- Events run one after another, each to completion before the next (R58). -/
def runInstrs : List Instr → State → Host.Outcome State Fault Refusal
  | [], s => .next s
  | i :: rest, s =>
    match exec i s with
    | .next t => runInstrs rest t
    | .fault r => .fault r
    | .refused r => .refused r

end Sys2Proof.Machine
end

