-- ==== Sys2Proof/Certificates/Slice0/Obligations.lean ====
section
/-! DEFINITION. The statements for the provers, from the numbered rules of spec/. -/

open Sys2Proof Sys2Proof.Machine

/-- R106: the table for POLY = 0xA001, as 40_crc_engine.md prints it. -/
def Sys2Proof.Machine.printedTable : List Half :=
  [0x0000, 0xC0C1, 0xC181, 0x0140, 0xC301, 0x03C0, 0x0280, 0xC241,
   0xC601, 0x06C0, 0x0780, 0xC741, 0x0500, 0xC5C1, 0xC481, 0x0440,
   0xCC01, 0x0CC0, 0x0D80, 0xCD41, 0x0F00, 0xCFC1, 0xCE81, 0x0E40,
   0x0A00, 0xCAC1, 0xCB81, 0x0B40, 0xC901, 0x09C0, 0x0880, 0xC841] ++
  [0xD801, 0x18C0, 0x1980, 0xD941, 0x1B00, 0xDBC1, 0xDA81, 0x1A40,
   0x1E00, 0xDEC1, 0xDF81, 0x1F40, 0xDD01, 0x1DC0, 0x1C80, 0xDC41,
   0x1400, 0xD4C1, 0xD581, 0x1540, 0xD701, 0x17C0, 0x1680, 0xD641,
   0xD201, 0x12C0, 0x1380, 0xD341, 0x1100, 0xD1C1, 0xD081, 0x1040] ++
  [0xF001, 0x30C0, 0x3180, 0xF141, 0x3300, 0xF3C1, 0xF281, 0x3240,
   0x3600, 0xF6C1, 0xF781, 0x3740, 0xF501, 0x35C0, 0x3480, 0xF441,
   0x3C00, 0xFCC1, 0xFD81, 0x3D40, 0xFF01, 0x3FC0, 0x3E80, 0xFE41,
   0xFA01, 0x3AC0, 0x3B80, 0xFB41, 0x3900, 0xF9C1, 0xF881, 0x3840] ++
  [0x2800, 0xE8C1, 0xE981, 0x2940, 0xEB01, 0x2BC0, 0x2A80, 0xEA41,
   0xEE01, 0x2EC0, 0x2F80, 0xEF41, 0x2D00, 0xEDC1, 0xEC81, 0x2C40,
   0xE401, 0x24C0, 0x2580, 0xE541, 0x2700, 0xE7C1, 0xE681, 0x2640,
   0x2200, 0xE2C1, 0xE381, 0x2340, 0xE101, 0x21C0, 0x2080, 0xE041] ++
  [0xA001, 0x60C0, 0x6180, 0xA141, 0x6300, 0xA3C1, 0xA281, 0x6240,
   0x6600, 0xA6C1, 0xA781, 0x6740, 0xA501, 0x65C0, 0x6480, 0xA441,
   0x6C00, 0xACC1, 0xAD81, 0x6D40, 0xAF01, 0x6FC0, 0x6E80, 0xAE41,
   0xAA01, 0x6AC0, 0x6B80, 0xAB41, 0x6900, 0xA9C1, 0xA881, 0x6840] ++
  [0x7800, 0xB8C1, 0xB981, 0x7940, 0xBB01, 0x7BC0, 0x7A80, 0xBA41,
   0xBE01, 0x7EC0, 0x7F80, 0xBF41, 0x7D00, 0xBDC1, 0xBC81, 0x7C40,
   0xB401, 0x74C0, 0x7580, 0xB541, 0x7700, 0xB7C1, 0xB681, 0x7640,
   0x7200, 0xB2C1, 0xB381, 0x7340, 0xB101, 0x71C0, 0x7080, 0xB041] ++
  [0x5000, 0x90C1, 0x9181, 0x5140, 0x9301, 0x53C0, 0x5280, 0x9241,
   0x9601, 0x56C0, 0x5780, 0x9741, 0x5500, 0x95C1, 0x9481, 0x5440,
   0x9C01, 0x5CC0, 0x5D80, 0x9D41, 0x5F00, 0x9FC1, 0x9E81, 0x5E40,
   0x5A00, 0x9AC1, 0x9B81, 0x5B40, 0x9901, 0x59C0, 0x5880, 0x9841] ++
  [0x8801, 0x48C0, 0x4980, 0x8941, 0x4B00, 0x8BC1, 0x8A81, 0x4A40,
   0x4E00, 0x8EC1, 0x8F81, 0x4F40, 0x8D01, 0x4DC0, 0x4C80, 0x8C41,
   0x4400, 0x84C1, 0x8581, 0x4540, 0x8701, 0x47C0, 0x4680, 0x8641,
   0x8201, 0x42C0, 0x4380, 0x8341, 0x4100, 0x81C1, 0x8081, 0x4040]

/-- CHECK(s), and "if not s.active: return": the two first lines of TEARDOWN, TICK, DATA, ERROR and CLOSED. -/
def Sys2Proof.Machine.ChecksSession (n : Nat) (i : Instr) (s : State) : Prop :=
  (s.nSessions ≤ n → exec i s = .next { s with refused := true, outcome := .refused .badSession }) ∧
  (n < s.nSessions → (s.session n).active = false → exec i s = .next { s with outcome := .done })

/-! ## CRC engine -/

/-- R100: the eight rounds, LSB first; and the rule's corner cases and worked example. -/
def Obligations.CrcTableEntryIsEightRounds : Prop :=
  (∀ (poly : Half) (i : Byte),
    crcTableEntry poly i =
      (List.range 8).foldl (fun c _ => if c.getLsbD 0 then (c >>> 1) ^^^ poly else c >>> 1) (i.setWidth 16)) ∧
  (∀ poly : Half, crcTableEntry poly 0x00#8 = 0x0000#16 ∧ crcTableEntry poly 0x80#8 = poly) ∧
  (∀ i : Byte, crcTableEntry 0x0000#16 i = 0x0000#16) ∧
  crcTableEntry 0xA001#16 0x01#8 = 0xC0C1#16

/-- R106, which the spec marks "[derived: from rule R100]": after CRC_INIT(0xA001) the table is the printed one, entry
by entry. -/
def Obligations.CrcInitGivesPrintedTable : Prop :=
  ∀ s : State, s.crcReady = false →
    ∃ t tbl, exec (.crcInit 0xA001#16) s = .next t ∧ t.crcTable = some tbl ∧
      ∀ i : Byte, printedTable[i.toNat]? = some (tableRead tbl i)

/-- R101: CRC_INIT builds the table once; a second one is refused. -/
def Obligations.CrcInitBuildsTableOnce : Prop :=
  ∀ (poly : Half) (s : State),
    (s.crcReady = false → ∃ tbl : CrcTable, (∀ i : Byte, tableRead tbl i = crcTableEntry poly i) ∧
      exec (.crcInit poly) s =
        .next { s with crcTable := some tbl, crcPoly := some poly, crcReady := true, outcome := .done }) ∧
    (s.crcReady = true →
      exec (.crcInit poly) s = .next { s with refused := true, outcome := .refused .crcReinit })

/-- R102: the fold over the table, its refusal before CRC_INIT, its corner cases and its worked example. -/
def Obligations.CrcComputeFoldsTable : Prop :=
  (∀ (bytes : List Byte) (s : State) (tbl : CrcTable), s.Ready tbl →
    exec (.crcCompute bytes) s = .next { s with
      outbox := s.outbox ++ [.returnCrc (bytes.foldl
        (fun r b => (r >>> 8) ^^^ tableRead tbl (((r ^^^ b.setWidth 16) &&& 0x00FF#16).setWidth 8)) 0x0000#16)]
      outcome := .done }) ∧
  (∀ (bytes : List Byte) (s : State), s.crcReady = false →
    exec (.crcCompute bytes) s = .next { s with refused := true, outcome := .refused .crcNotReady }) ∧
  (∀ (poly : Half) (k : Nat) (b : Byte),
    crcOf (crcTableOf poly) (List.replicate k 0x00#8) = 0x0000#16 ∧
    crcOf (crcTableOf poly) [b] = tableRead (crcTableOf poly) b) ∧
  crcOf (crcTableOf 0xA001#16) [0x05#8, 0x02#8, 0x17#8, 0x05#8] = 0xFF6E#16

/-- R107, which the spec marks "[from general knowledge, not in source]": the table-driven CRC equals the bit-serial
one, for every polynomial and every input. -/
def Obligations.TableCrcEqualsBitSerial : Prop :=
  ∀ (poly : Half) (bytes : List Byte),
    crcOf (crcTableOf poly) bytes =
      bytes.foldl (fun c b =>
        (List.range 8).foldl (fun c _ => if c.getLsbD 0 then (c >>> 1) ^^^ poly else c >>> 1)
          (c ^^^ b.setWidth 16)) 0x0000#16

/-- R21: only CRC_INIT writes the polynomial and the table, once; block reset aside, nothing changes them after. -/
def Obligations.CrcTableWrittenOnlyByInit : Prop :=
  ∀ (i : Instr) (s t : State), exec i s = .next t →
    (t.crcReady = s.crcReady ∧ t.crcPoly = s.crcPoly ∧ t.crcTable = s.crcTable) ∨ i = .reset ∨
    (∃ poly, i = .crcInit poly ∧ s.crcReady = false ∧ t.crcReady = true ∧ t.crcPoly = some poly)

/-- R263: before CRC_INIT, CRC_COMPUTE, BUILD, PARSE and SETUP are refused, as CRC_NOT_READY unless an earlier check
of R121 or CHECK refuses first. -/
def Obligations.InitialiseBeforeUse : Prop :=
  ∀ (i : Instr) (s : State), s.crcReady = false →
    ((∃ bytes, i = .crcCompute bytes) ∨ (∃ cmd, i = .build cmd) ∨ (∃ buf, i = .parse buf) ∨
      (∃ n iface, i = .setup n iface)) →
    ∃ r, exec i s = .next { s with refused := true, outcome := .refused r } ∧
      (r = .crcNotReady ∨ (r = .testerIdUnknown ∧ i = .build .testerId) ∨
        (r = .badSession ∧ ∃ n iface, i = .setup n iface ∧ s.nSessions ≤ n))

/-! ## Frame codec and registry -/

/-- R120: BUILD of TotalEnergy and CurrentPower, its refusal before CRC_INIT; and the rule's worked examples, which
the spec marks "[derived: from this rule and 40_crc_engine.md rule R102]". -/
def Obligations.BuildMakesRequestFrame : Prop :=
  (∀ (cmd : CommandId) (hi lo : Byte) (s : State) (tbl : CrcTable),
    (cmd, hi, lo) = (.totalEnergy, 0x17#8, 0x05#8) ∨ (cmd, hi, lo) = (.currentPower, 0x10#8, 0x09#8) →
    (s.Ready tbl → exec (.build cmd) s = .next { s with
      outbox := s.outbox ++ [.returnFrame [0x02#8, 0x05#8, 0x02#8, hi, lo,
        (crcOf tbl [0x05#8, 0x02#8, hi, lo]).extractLsb' 0 8,
        (crcOf tbl [0x05#8, 0x02#8, hi, lo]).extractLsb' 8 8, 0x03#8]]
      outcome := .done }) ∧
    (s.crcReady = false →
      exec (.build cmd) s = .next { s with refused := true, outcome := .refused .crcNotReady })) ∧
  (∀ s : State, s.Ready (crcTableOf 0xA001#16) →
    exec (.build .totalEnergy) s = .next { s with
      outbox := s.outbox ++ [.returnFrame
        [0x02#8, 0x05#8, 0x02#8, 0x17#8, 0x05#8, 0x6E#8, 0xFF#8, 0x03#8]]
      outcome := .done } ∧
    exec (.build .currentPower) s = .next { s with
      outbox := s.outbox ++ [.returnFrame
        [0x02#8, 0x05#8, 0x02#8, 0x10#8, 0x09#8, 0x6C#8, 0xCA#8, 0x03#8]]
      outcome := .done })

/-- R121: BUILD(TesterId) is refused while TESTER_ID_CODE is none, and otherwise is R120 with that code. -/
def Obligations.BuildTesterIdNeedsItsCode : Prop :=
  ∀ s : State,
    (s.cfg.testerIdCode = none →
      exec (.build .testerId) s = .next { s with refused := true, outcome := .refused .testerIdUnknown }) ∧
    (∀ code : Half, s.cfg.testerIdCode = some code →
      (∀ tbl, s.Ready tbl → exec (.build .testerId) s = .next { s with
        outbox := s.outbox ++ [.returnFrame [0x02#8, 0x05#8, 0x02#8, hi8 code, lo8 code,
          lo8 (crcOf tbl [0x05#8, 0x02#8, hi8 code, lo8 code]),
          hi8 (crcOf tbl [0x05#8, 0x02#8, hi8 code, lo8 code]), 0x03#8]]
        outcome := .done }) ∧
      (s.crcReady = false →
        exec (.build .testerId) s = .next { s with refused := true, outcome := .refused .crcNotReady }))

/-- The rows REQ_TOTAL_ENERGY, REQ_CURRENT_POWER and REQ_TESTER_ID (R71, R120, R121): their frames, and their refusals
before CRC_INIT and while TESTER_ID_CODE is none. That a request row makes its frame, or is refused, as BUILD is, is the
model's choice (log 4). -/
def Obligations.RequestRowsMakeTheirFrames : Prop :=
  ∀ s : State,
    (∀ tbl, s.Ready tbl →
      exec .reqTotalEnergy s = .next { s with
        outbox := s.outbox ++ [.returnFrame [0x02#8, 0x05#8, 0x02#8, 0x17#8, 0x05#8,
          lo8 (crcOf tbl [0x05#8, 0x02#8, 0x17#8, 0x05#8]), hi8 (crcOf tbl [0x05#8, 0x02#8, 0x17#8, 0x05#8]), 0x03#8]]
        outcome := .done } ∧
      exec .reqCurrentPower s = .next { s with
        outbox := s.outbox ++ [.returnFrame [0x02#8, 0x05#8, 0x02#8, 0x10#8, 0x09#8,
          lo8 (crcOf tbl [0x05#8, 0x02#8, 0x10#8, 0x09#8]), hi8 (crcOf tbl [0x05#8, 0x02#8, 0x10#8, 0x09#8]), 0x03#8]]
        outcome := .done } ∧
      (∀ code : Half, s.cfg.testerIdCode = some code → exec .reqTesterId s = .next { s with
        outbox := s.outbox ++ [.returnFrame [0x02#8, 0x05#8, 0x02#8, hi8 code, lo8 code,
          lo8 (crcOf tbl [0x05#8, 0x02#8, hi8 code, lo8 code]),
          hi8 (crcOf tbl [0x05#8, 0x02#8, hi8 code, lo8 code]), 0x03#8]]
        outcome := .done })) ∧
    (s.crcReady = false →
      exec .reqTotalEnergy s = .next { s with refused := true, outcome := .refused .crcNotReady } ∧
      exec .reqCurrentPower s = .next { s with refused := true, outcome := .refused .crcNotReady } ∧
      (s.cfg.testerIdCode ≠ none →
        exec .reqTesterId s = .next { s with refused := true, outcome := .refused .crcNotReady })) ∧
    (s.cfg.testerIdCode = none →
      exec .reqTesterId s = .next { s with refused := true, outcome := .refused .testerIdUnknown })

/-- R126, which the spec marks "[derived: from rules R120 and R122]": the CRC of a built frame's bytes 1..4 is the one
it carries; PARSE rejects the frame on its header. -/
def Obligations.BuiltFrameCarriesItsCrc : Prop :=
  ∀ (cmd : CommandId) (code : Half) (s : State) (tbl : CrcTable),
    s.Ready tbl → codeOf s.cfg.testerIdCode cmd = some code →
    ∃ f : List Byte,
      exec (.build cmd) s = .next { s with outbox := s.outbox ++ [.returnFrame f], outcome := .done } ∧
      f.length = 8 ∧
      crcOf tbl (slice f 1 4) = (f.getD 5 0x00#8).setWidth 16 ||| (f.getD 6 0x00#8).setWidth 16 <<< 8 ∧
      exec (.parse f) s = .next { s with
        outbox := s.outbox ++ [.returnVerdict (.err .frameHeader)], outcome := .done }

/-- R122, in the rows of R81: every buffer's verdict, and the refusal before CRC_INIT. -/
def Obligations.ParseClassifiesEveryBuffer : Prop :=
  (∀ (buf : List Byte) (s : State) (tbl : CrcTable), s.Ready tbl →
    exec (.parse buf) s = .next { s with
      outbox := s.outbox ++ [.returnVerdict (
        let len := (buf.getD 3 0x00#8).toNat
        let crc := crcOf tbl (slice buf 1 (len + 3))
        if buf.length < 4 then .err .frameShort
        else if buf.take 3 ≠ [0x02#8, 0x06#8, 0x01#8] then .err .frameHeader
        else if buf.length ≠ len + 7 then .err .frameSize
        else if buf.getD (len + 4) 0x00#8 ≠ crc.extractLsb' 0 8 then .err .crcLo
        else if buf.getD (len + 5) 0x00#8 ≠ crc.extractLsb' 8 8 then .err .crcHi
        else if len ≤ 2 then .noDispatch
        else if slice buf 4 5 = [0x17#8, 0x05#8] then
          if len = 6 then
            .totalEnergy (be32 (buf.getD 6 0x00#8) (buf.getD 7 0x00#8) (buf.getD 8 0x00#8) (buf.getD 9 0x00#8))
          else .err .decodeLen
        else if slice buf 4 5 = [0x10#8, 0x09#8] then
          if len = 4 then .currentPower (be16 (buf.getD 6 0x00#8) (buf.getD 7 0x00#8)) else .err .decodeLen
        else .ignored (be16 (buf.getD 4 0x00#8) (buf.getD 5 0x00#8)))]
      outcome := .done }) ∧
  (∀ (buf : List Byte) (s : State), s.crcReady = false →
    exec (.parse buf) s = .next { s with refused := true, outcome := .refused .crcNotReady })

/-- R59, R123: no verdict depends on a byte outside the buffer, whatever such a read would give. -/
def Obligations.ParseNeverReadsOutside : Prop :=
  ∀ (oob oob' : Byte) (tbl : CrcTable) (buf : List Byte), parseReading oob tbl buf = parseReading oob' tbl buf

/-- R127, which the spec marks "[derived: from rules R122 and 40_crc_engine.md rule R102]": what one flipped bit does
to a frame that passes every framing and CRC gate. -/
def Obligations.SingleBitFlipsClassified : Prop :=
  ∀ (buf : List Byte) (p k : Nat), p < buf.length → k < 8 →
    (∀ e, parseFrame (crcTableOf 0xA001#16) buf = .err e → e = .decodeLen) →
    ∀ flipped : List Byte, flipped = buf.set p (buf.getD p 0x00#8 ^^^ (0x01#8 <<< k)) →
    (p ≤ 2 → parseFrame (crcTableOf 0xA001#16) flipped = .err .frameHeader) ∧
    (p = 3 → parseFrame (crcTableOf 0xA001#16) flipped = .err .frameSize) ∧
    (4 ≤ p → p ≤ (buf.getD 3 0x00#8).toNat + 5 →
      parseFrame (crcTableOf 0xA001#16) flipped = .err .crcLo ∨
      parseFrame (crcTableOf 0xA001#16) flipped = .err .crcHi) ∧
    (p = (buf.getD 3 0x00#8).toNat + 6 →
      parseFrame (crcTableOf 0xA001#16) flipped = parseFrame (crcTableOf 0xA001#16) buf)

/-- R166: CODE and the registry's match are inverse on TotalEnergy and CurrentPower. -/
def Obligations.RegistryCodesBijective : Prop :=
  (∀ c : Registered, registryFind (registeredCode c) = some c) ∧
  (∀ (code : Half) (c : Registered), registryFind code = some c → registeredCode c = code) ∧
  (∀ s : State, s.legalConfig = true → ∀ code, s.cfg.testerIdCode = some code →
    ∀ c : Registered, registeredCode c ≠ code)

/-- R230: the number and the class of each error. -/
def Obligations.ErrorNumbersAndClasses : Prop :=
  [ErrorCode.openFail, .writeShort, .transportError, .transportClosed, .frameShort, .frameHeader, .frameSize,
    .crcLo, .crcHi, .decodeLen, .configIfaceInUse].map (fun e => (errorNumber e, errorClass e)) =
  [(0x01#8, .transport), (0x02#8, .transport), (0x03#8, .transport), (0x04#8, .transport), (0x10#8, .framing),
    (0x11#8, .framing), (0x12#8, .framing), (0x20#8, .integrity), (0x21#8, .integrity), (0x30#8, .decode),
    (0x40#8, .configuration)]

/-! ## Received data -/

/-- R190: DATA's two checks; and on an active session it emits what the verdict says and changes nothing else. -/
def Obligations.DataForwardsVerdict : Prop :=
  ∀ (n : Nat) (chunk : List Byte) (s : State), ChecksSession n (.data n chunk) s ∧
    ∀ tbl : CrcTable, s.Live n → s.Ready tbl → ∃ new : List Output,
      exec (.data n chunk) s = .next { s with outbox := s.outbox ++ new, outcome := .done } ∧
      (∀ e, parseFrame tbl chunk = .err e → new = [.diag (some n) e (.chunk chunk)]) ∧
      (∀ v, parseFrame tbl chunk = .totalEnergy v → new = [.totalEnergy n v]) ∧
      (∀ v, parseFrame tbl chunk = .currentPower v → new = [.currentPower n v]) ∧
      (parseFrame tbl chunk = .noDispatch → new = []) ∧
      (∀ code, parseFrame tbl chunk = .ignored code → new = [])

/-- R161, R162: a TotalEnergy response and a CurrentPower response give their value, for every value and any
trailer. -/
def Obligations.ResponseFramesDeliverTheirValue : Prop :=
  ∀ (n : Nat) (trailer : Byte) (s : State) (tbl : CrcTable), s.Live n → s.Ready tbl →
    (∀ (v : Word) (span : List Byte), span = [0x06#8, 0x01#8, 0x06#8, 0x17#8, 0x05#8,
        v.extractLsb' 24 8, v.extractLsb' 16 8, v.extractLsb' 8 8, v.extractLsb' 0 8] →
      exec (.data n (0x02#8 :: span ++ [lo8 (crcOf tbl span), hi8 (crcOf tbl span), trailer])) s =
        .next { s with outbox := s.outbox ++ [.totalEnergy n v], outcome := .done }) ∧
    (∀ (v : Half) (span : List Byte), span = [0x06#8, 0x01#8, 0x04#8, 0x10#8, 0x09#8,
        v.extractLsb' 8 8, v.extractLsb' 0 8] →
      exec (.data n (0x02#8 :: span ++ [lo8 (crcOf tbl span), hi8 (crcOf tbl span), trailer])) s =
        .next { s with outbox := s.outbox ++ [.currentPower n v], outcome := .done })

/-- R163, R164: a valid frame with a recognised code and the wrong L is a decode error; any other code is ignored
silently. -/
def Obligations.WrongLengthAndUnknownCodes : Prop :=
  ∀ (n : Nat) (hi lo : Byte) (rest : List Byte) (trailer : Byte) (s : State) (tbl : CrcTable)
    (span chunk : List Byte),
    s.Live n → s.Ready tbl → 1 ≤ rest.length → rest.length ≤ 253 →
    span = 0x06#8 :: 0x01#8 :: BitVec.ofNat 8 (rest.length + 2) :: hi :: lo :: rest →
    chunk = 0x02#8 :: span ++ [lo8 (crcOf tbl span), hi8 (crcOf tbl span), trailer] →
    (((hi, lo) = (0x17#8, 0x05#8) ∧ rest.length + 2 ≠ 6) ∨ ((hi, lo) = (0x10#8, 0x09#8) ∧ rest.length + 2 ≠ 4) →
      exec (.data n chunk) s = .next { s with
        outbox := s.outbox ++ [.diag (some n) .decodeLen (.chunk chunk)], outcome := .done } ∧
      exec (.parse chunk) s = .next { s with
        outbox := s.outbox ++ [.returnVerdict (.err .decodeLen)], outcome := .done }) ∧
    ((hi, lo) ≠ (0x17#8, 0x05#8) → (hi, lo) ≠ (0x10#8, 0x09#8) →
      exec (.data n chunk) s = .next { s with outcome := .done } ∧
      exec (.parse chunk) s = .next { s with
        outbox := s.outbox ++ [.returnVerdict (.ignored (be16 hi lo))], outcome := .done })

/-- R82, R125: a valid frame with L at most 2 is NoDispatch, even when its payload is a code. -/
def Obligations.ShortPayloadIsNotDispatched : Prop :=
  ∀ (n : Nat) (payload : List Byte) (trailer : Byte) (s : State) (tbl : CrcTable) (span chunk : List Byte),
    s.Live n → s.Ready tbl → payload.length ≤ 2 →
    span = 0x06#8 :: 0x01#8 :: BitVec.ofNat 8 payload.length :: payload →
    chunk = 0x02#8 :: span ++ [lo8 (crcOf tbl span), hi8 (crcOf tbl span), trailer] →
    exec (.data n chunk) s = .next { s with outcome := .done } ∧
    exec (.parse chunk) s = .next { s with
      outbox := s.outbox ++ [.returnVerdict .noDispatch], outcome := .done }

/-- The six response rows on an active session: their effects (R81 rows 1 to 10, R124, R161 to R164). That a
response row is the receipt of its frame on a link is the model's choice (log 4). -/
def Obligations.ResponseRowsHaveTheirEffect : Prop :=
  ∀ (n : Nat) (trailer : Byte) (s : State) (tbl : CrcTable), s.Live n → s.Ready tbl →
    (∀ v, exec (.rspTotalEnergy n v trailer) s =
      .next { s with outbox := s.outbox ++ [.totalEnergy n v], outcome := .done }) ∧
    (∀ v, exec (.rspCurrentPower n v trailer) s =
      .next { s with outbox := s.outbox ++ [.currentPower n v], outcome := .done }) ∧
    (∀ payload, exec (.rspNoDispatch n payload trailer) s = .next { s with outcome := .done }) ∧
    (∀ c rest, exec (.rspDecodeLen n c rest trailer) s = .next { s with
      outbox := s.outbox ++ [.diag (some n) .decodeLen
        (.chunk (responseFrame tbl (hi8 (registeredCode c) :: lo8 (registeredCode c) :: rest) trailer))]
      outcome := .done }) ∧
    (∀ code rest, exec (.rspUnknown n code rest trailer) s = .next { s with outcome := .done }) ∧
    (∀ gate buf, exec (.rspIllegal n gate buf) s = .next { s with
      outbox := s.outbox ++ [.diag (some n)
        (match gate with
          | .frameShort => .frameShort
          | .frameHeader => .frameHeader
          | .frameSize => .frameSize
          | .crcLo => .crcLo
          | .crcHi => .crcHi) (.chunk buf)]
      outcome := .done })

/-- DATA(s, chunk) does exactly what the class of the chunk does (R81, R122, R190), in every state: PARSE and
DISPATCH, written after their pseudocode, agree with the decoder and the six response meanings. That a response row has
a meaning, the receipt of its frame on a link, is the model's choice (log 4). -/
def Obligations.DataEqualsItsResponseClass : Prop :=
  ∀ (n : Nat) (chunk : List Byte) (s : State),
    exec (.data n chunk) s = exec (decodeResponse s.wireContext.table n chunk) s

/-! ## Link sessions -/

/-- R180: SETUP, in the order of its checks, with the two results of `open`. -/
def Obligations.SetupOutcomes : Prop :=
  ∀ (n : Nat) (iface : InterfaceId) (s : State),
    (s.nSessions ≤ n →
      exec (.setup n iface) s = .next { s with refused := true, outcome := .refused .badSession }) ∧
    (n < s.nSessions → s.crcReady = false →
      exec (.setup n iface) s = .next { s with refused := true, outcome := .refused .crcNotReady }) ∧
    (∀ tbl, n < s.nSessions → s.Ready tbl →
      ((s.session n).active = true →
        exec (.setup n iface) s = .next { s with refused := true, outcome := .refused .setupActive }) ∧
      ((s.session n).active = false →
        (∃ m, m ≠ n ∧ (s.session m).active = true ∧ (s.session m).iface = some iface) →
        exec (.setup n iface) s = .next { s with
          outbox := s.outbox ++ [.setupFail n .configIfaceInUse], outcome := .done }) ∧
      (s.session n = Session.reset →
        (∀ m, m ≠ n → (s.session m).active = true → (s.session m).iface ≠ some iface) →
        (s.nextOpen = true → exec (.setup n iface) s = .next { s.afterOpen.afterWrite.afterWrite with
          sessions := s.sessions.set n {
            active := true, iface := some iface, link := .connected
            poll := ⟨true, s.cfg.pollInterval⟩, reconnect := ⟨false, 0⟩ }
          outbox := s.outbox ++ [.openCall n (some iface), .conn n true] ++
            pollOutputs tbl n s.afterOpen.nextWrite s.afterOpen.afterWrite.nextWrite
          outcome := .done }) ∧
        (s.nextOpen = false → exec (.setup n iface) s = .next { s.afterOpen with
          sessions := s.sessions.set n {
            active := true, iface := some iface, link := .disconnected
            poll := ⟨false, 0⟩, reconnect := ⟨true, s.cfg.reconnectInterval⟩ }
          outbox := s.outbox ++ [.openCall n (some iface), .diag (some n) .openFail (.iface (some iface)),
            .conn n false]
          outcome := .done })))

/-- The pseudocode of R185, R186 and R187: TICK's two checks; and on an active session it counts the armed timer and
fires it at 0. -/
def Obligations.TickCountsAndFires : Prop :=
  ∀ (n : Nat) (s : State), ChecksSession n (.tick n) s ∧ ∀ r : Session, s.Live n → r = s.session n →
    (r.poll.armed = false → r.reconnect.armed = false → exec (.tick n) s = .next { s with outcome := .done }) ∧
    (r.poll.armed = true → 1 < r.poll.rem →
      exec (.tick n) s = .next { s with
        sessions := s.sessions.set n { r with poll := ⟨true, r.poll.rem - 1⟩ }, outcome := .done }) ∧
    (∀ tbl, s.Ready tbl → r.poll.armed = true → r.poll.rem = 1 →
      exec (.tick n) s = .next { s.afterWrite.afterWrite with
        sessions := s.sessions.set n { r with poll := ⟨true, s.cfg.pollInterval⟩ }
        outbox := s.outbox ++ pollOutputs tbl n s.nextWrite s.afterWrite.nextWrite
        outcome := .done }) ∧
    (r.poll.armed = false → r.reconnect.armed = true → 1 < r.reconnect.rem →
      exec (.tick n) s = .next { s with
        sessions := s.sessions.set n { r with reconnect := ⟨true, r.reconnect.rem - 1⟩ }, outcome := .done }) ∧
    (∀ tbl, s.Ready tbl → r.poll.armed = false → r.reconnect.armed = true → r.reconnect.rem = 1 →
      s.nextOpen = true →
      exec (.tick n) s = .next { s.afterOpen.afterWrite.afterWrite with
        sessions := s.sessions.set n { r with
          link := .connected, poll := ⟨true, s.cfg.pollInterval⟩, reconnect := ⟨false, 0⟩ }
        outbox := s.outbox ++ [.openCall n r.iface, .conn n true] ++
          pollOutputs tbl n s.afterOpen.nextWrite s.afterOpen.afterWrite.nextWrite
        outcome := .done }) ∧
    (r.poll.armed = false → r.reconnect.armed = true → r.reconnect.rem = 1 → s.nextOpen = false →
      exec (.tick n) s = .next { s.afterOpen with
        sessions := s.sessions.set n { r with reconnect := ⟨true, s.cfg.reconnectInterval⟩ }
        outbox := s.outbox ++ [.openCall n r.iface, .diag (some n) .openFail (.iface r.iface)]
        outcome := .done })

/-- R188, R189, R182: ERROR and CLOSED, their two checks, and their effect from either link state. -/
def Obligations.TransportLossDisconnects : Prop :=
  ∀ (n : Nat) (sig : Signal) (s : State), ChecksSession n (.error n sig) s ∧ ChecksSession n (.closed n) s ∧
    ∀ r : Session, s.Live n → r = s.session n →
    (r.link = .connected →
      exec (.error n sig) s = .next { s with
        sessions := s.sessions.set n { r with
          link := .disconnected, poll := ⟨false, 0⟩, reconnect := ⟨true, s.cfg.reconnectInterval⟩ }
        outbox := s.outbox ++ [.diag (some n) .transportError (.signal sig), .conn n false]
        outcome := .done } ∧
      exec (.closed n) s = .next { s with
        sessions := s.sessions.set n { r with
          link := .disconnected, poll := ⟨false, 0⟩, reconnect := ⟨true, s.cfg.reconnectInterval⟩ }
        outbox := s.outbox ++ [.diag (some n) .transportClosed .noInfo, .conn n false]
        outcome := .done }) ∧
    (r.link = .disconnected →
      exec (.error n sig) s = .next { s with
        outbox := s.outbox ++ [.diag (some n) .transportError (.signal sig)], outcome := .done } ∧
      exec (.closed n) s = .next { s with
        outbox := s.outbox ++ [.diag (some n) .transportClosed .noInfo], outcome := .done })

/-- R191: TEARDOWN's two checks; and on an active session it returns the record to its reset values and touches
nothing else. -/
def Obligations.TeardownReleasesSession : Prop :=
  ∀ (n : Nat) (s : State), ChecksSession n (.teardown n) s ∧ (s.Live n →
    exec (.teardown n) s = .next { s with
      sessions := s.sessions.set n
        { active := false, iface := none, link := .disconnected, poll := ⟨false, 0⟩, reconnect := ⟨false, 0⟩ }
      outbox := s.outbox ++ (if (s.session n).link = .connected then [.closeCall n] else [])
      outcome := .done })

/-- R192: TICK, DATA, ERROR and CLOSED to an inactive session change nothing and emit nothing; R191: nor does
TEARDOWN. That the six response rows are receipts on a session, and so do nothing there either, is the model's choice
(log 4). -/
def Obligations.InactiveSessionIgnoresEvents : Prop :=
  ∀ (n : Nat) (i : Instr) (s : State), n < s.nSessions → (s.session n).active = false →
    sessionOf i = some n → (∀ iface, i ≠ .setup n iface) →
    exec i s = .next { s with outcome := .done }

/-- R233, R84: a session index of N_SESSIONS or more is refused, for the six events of R84 that have one. That a response
row has a session index, the link it is received on, and is refused as DATA is, is the model's choice (log 4). -/
def Obligations.BadSessionIsRefused : Prop :=
  ∀ (n : Nat) (i : Instr) (s : State), s.nSessions ≤ n → sessionOf i = some n →
    exec i s = .next { s with refused := true, outcome := .refused .badSession }

/-- R271, which the spec marks "[derived: from 43_link_session.md rules R180, R191]": of two SETUPs for one interface
the second fails, and TEARDOWN of the first frees the interface. -/
def Obligations.SecondSetupOnInterfaceFails : Prop :=
  ∀ (m n : Nat) (iface : InterfaceId) (s t : State) (tbl : CrcTable),
    m ≠ n → m < s.nSessions → n < s.nSessions → s.Ready tbl →
    s.session n = Session.reset → s.session m = Session.reset → s.ifaceInUse n iface = false →
    exec (.setup n iface) s = .next t →
    (t.session n).active = true ∧
    exec (.setup m iface) t = .next { t with
      outbox := t.outbox ++ [.setupFail m .configIfaceInUse], outcome := .done } ∧
    ∃ v w, exec (.teardown n) t = .next v ∧ exec (.setup m iface) v = .next w ∧
      (w.session m).active = true ∧ (w.session m).iface = some iface

/-- R239, R186: a connected session polls at the tick that brings its count to 0 and at no earlier one; and over `m`
whole intervals it makes exactly two writes for each, whatever they return. -/
def Obligations.PollsEveryInterval : Prop :=
  (∀ (n k : Nat) (s : State) (r : Session) (tbl : CrcTable), s.Live n → s.Ready tbl → r = s.session n →
    r.poll = ⟨true, k + 1⟩ →
    (∀ j ≤ k, ∃ t, runInstrs (List.replicate j (.tick n)) s = .next t ∧ t.outbox = s.outbox) ∧
    (∃ t, runInstrs (List.replicate (k + 1) (.tick n)) s = .next t ∧
      t.outbox = s.outbox ++ pollOutputs tbl n s.nextWrite s.afterWrite.nextWrite ∧
      t.session n = { r with poll := ⟨true, s.cfg.pollInterval⟩ })) ∧
  (∀ (n m : Nat) (s : State) (tbl : CrcTable), s.Live n → s.Ready tbl → 1 ≤ s.cfg.pollInterval →
    (s.session n).poll = ⟨true, s.cfg.pollInterval⟩ →
    ∃ t new, runInstrs (List.replicate (m * s.cfg.pollInterval) (.tick n)) s = .next t ∧
      t.outbox = s.outbox ++ new ∧ (new.filter isWrite).length = 2 * m ∧ t.session n = s.session n)

/-- R267, R187: between two attempts of a session lie RECONNECT_INTERVAL ticks, counted from the end of the earlier
one; until the count reaches 0 no attempt is made, the tick that brings it to 0 makes one, whatever `open` returns; a
failed attempt starts a whole interval again, and one that succeeds connects, polls and leaves the timer disarmed. -/
def Obligations.ReconnectAttemptsAreSpaced : Prop :=
  ∀ (n k : Nat) (s : State) (r : Session), s.Live n → r = s.session n →
    r.poll.armed = false → r.reconnect = ⟨true, k + 1⟩ →
    (∀ j ≤ k, ∃ t, runInstrs (List.replicate j (.tick n)) s = .next t ∧ t.outbox = s.outbox) ∧
    (s.nextOpen = false →
      ∃ t, runInstrs (List.replicate (k + 1) (.tick n)) s = .next t ∧
        t.outbox = s.outbox ++ [.openCall n r.iface, .diag (some n) .openFail (.iface r.iface)] ∧
        t.session n = { r with reconnect := ⟨true, s.cfg.reconnectInterval⟩ }) ∧
    (∀ tbl, s.Ready tbl → s.nextOpen = true →
      ∃ t, runInstrs (List.replicate (k + 1) (.tick n)) s = .next t ∧
        t.outbox = s.outbox ++ [.openCall n r.iface, .conn n true] ++
          pollOutputs tbl n s.afterOpen.nextWrite s.afterOpen.afterWrite.nextWrite ∧
        t.session n = { r with
          link := .connected, poll := ⟨true, s.cfg.pollInterval⟩, reconnect := ⟨false, 0⟩ })

/-- R269: after TEARDOWN no number of TICKs fires a timer of the session. -/
def Obligations.TornDownSessionNeverFires : Prop :=
  ∀ (n k : Nat) (s : State), s.Live n →
    ∃ t, runInstrs (.teardown n :: List.replicate k (.tick n)) s = .next t ∧
      t.outbox = s.outbox ++ (if (s.session n).link = .connected then [.closeCall n] else []) ∧
      t.session n = Session.reset

/-! ## The whole machine -/

/-- R260: RESET, and power-on, put every piece of the block's state at its reset value; RESET emits nothing; the
configuration is fixed before reset. That the host's side (inbox, outbox, answers) stays is the model's choice
(log 9). -/
def Obligations.ResetRestoresEveryField : Prop :=
  (State.reset.crcReady = false ∧ State.reset.crcPoly = none ∧ State.reset.crcTable = none ∧
    State.reset.refused = false ∧ State.reset.outbox = [] ∧
    (∀ r ∈ State.reset.sessions, r =
      { active := false, iface := none, link := .disconnected, poll := ⟨false, 0⟩, reconnect := ⟨false, 0⟩ })) ∧
  ∀ s : State, exec .reset s = .next { s with
    crcReady := false
    crcPoly := none
    crcTable := none
    sessions := List.replicate s.sessions.length
      { active := false, iface := none, link := .disconnected, poll := ⟨false, 0⟩, reconnect := ⟨false, 0⟩ }
    refused := false
    outcome := .done }

/-- R231: no fault. R9 lists a refusal among the outcomes; that every step of a configured machine answers a next state
all the same is the model's choice: a refusal is a next state with the mark (log 7), an input that decodes to no event
is refused so (log 8), with nothing delivered the block waits (log 1), and the configuration is one R33 accepts
(log 11). -/
def Obligations.EveryStepContinues : Prop :=
  ∀ s : State, s.legalConfig = true → ∃ t, step s = .next t

/-- R233: a refused event writes nothing but the mark and emits nothing, and is refused for a reason of the table;
what the table lists is refused; a configuration R33 refuses has no step. The recorded reason is the model's own
(log 7), and so are the request rows beside BUILD, the response rows' session index (log 4), and that such a
configuration stops the step (log 11). -/
def Obligations.RefusalsWriteOnlyTheMark : Prop :=
  (∀ (i : Instr) (s t : State) (r : RefuseReason), s.Inv → exec i s = .next t → t.outcome = .refused r →
    t = { s with refused := true, outcome := .refused r } ∧
    ((r = .crcNotReady ∧ s.crcReady = false ∧
        ((∃ bytes, i = .crcCompute bytes) ∨ (∃ cmd, i = .build cmd) ∨ (∃ buf, i = .parse buf) ∨
          (∃ n iface, i = .setup n iface) ∨ i = .reqTotalEnergy ∨ i = .reqCurrentPower ∨ i = .reqTesterId)) ∨
      (r = .crcReinit ∧ s.crcReady = true ∧ ∃ poly, i = .crcInit poly) ∨
      (r = .testerIdUnknown ∧ s.cfg.testerIdCode = none ∧ (i = .build .testerId ∨ i = .reqTesterId)) ∨
      (r = .setupActive ∧ ∃ n iface, i = .setup n iface ∧ (s.session n).active = true) ∨
      (r = .badSession ∧ ∃ n, sessionOf i = some n ∧ s.nSessions ≤ n))) ∧
  (∀ (i : Instr) (s : State),
    (s.crcReady = false ∧ ((∃ bytes, i = .crcCompute bytes) ∨ (∃ cmd, i = .build cmd) ∨ (∃ buf, i = .parse buf) ∨
        (∃ n iface, i = .setup n iface) ∨ i = .reqTotalEnergy ∨ i = .reqCurrentPower ∨ i = .reqTesterId)) ∨
      (s.crcReady = true ∧ ∃ poly, i = .crcInit poly) ∨
      (s.cfg.testerIdCode = none ∧ (i = .build .testerId ∨ i = .reqTesterId)) ∨
      (∃ n iface, i = .setup n iface ∧ (s.session n).active = true) ∨
      (∃ n, sessionOf i = some n ∧ s.nSessions ≤ n) →
    ∃ r, exec i s = .next { s with refused := true, outcome := .refused r }) ∧
  (∀ s : State, s.cfg.pollInterval = 0 ∨ s.cfg.reconnectInterval = 0 ∨
      s.cfg.testerIdCode = some 0x1705#16 ∨ s.cfg.testerIdCode = some 0x1009#16 →
    step s = .refused .illegalConfiguration)

/-- R32: the mark is set by every refusal and by nothing else, and cleared by block reset alone. -/
def Obligations.RefusedMarkIsSticky : Prop :=
  State.reset.refused = false ∧
  ∀ (i : Instr) (s t : State), exec i s = .next t →
    (i = .reset → t.refused = false) ∧
    (i ≠ .reset → (t.refused = true ↔ s.refused = true ∨ ∃ r, t.outcome = .refused r))

/-- R31, R243: an event writes the record of its own session only. A response row's session is its link (log 4). -/
def Obligations.OtherSessionsUntouched : Prop :=
  ∀ (i : Instr) (m : Nat) (s t : State), exec i s = .next t → i ≠ .reset → sessionOf i ≠ some m →
    t.session m = s.session m

/-- R31: no event but SETUP reads another session's record: two states that differ only in the other records give
the same outputs, the same own record and the same rest. A response row's session is its link (log 4). -/
def Obligations.OtherSessionsUnread : Prop :=
  ∀ (i : Instr) (n : Nat) (s s' t t' : State), sessionOf i = some n → (∀ iface, i ≠ .setup n iface) →
    s' = { s with sessions := s'.sessions } → s'.nSessions = s.nSessions → s'.session n = s.session n →
    exec i s = .next t → exec i s' = .next t' →
    t' = { t with sessions := t'.sessions } ∧ t'.session n = t.session n

/-- R33: no event writes the configuration registers, and none changes the number of session records. -/
def Obligations.ConfigurationNeverWritten : Prop :=
  ∀ (i : Instr) (s t : State), exec i s = .next t → t.cfg = s.cfg ∧ t.nSessions = s.nSessions

/-- R58, R61: a step takes the oldest input, and its outputs come after those of every earlier step. -/
def Obligations.OutputsFollowInOrder : Prop :=
  ∀ s t : State, step s = .next t → t.inbox = s.inbox.tail ∧ ∃ new, t.outbox = s.outbox ++ new

/-- R240, R183: which event makes which host call: `flush` never; `close` only TEARDOWN of a connected session; `open`
only SETUP and a reconnect attempt, at most once; `write` only SETUP and TICK, and only the request frames of TotalEnergy
and CurrentPower. -/
def Obligations.HostCallsOnlyWhereStated : Prop :=
  ∀ (i : Instr) (s t : State) (new : List Output), exec i s = .next t → t.outbox = s.outbox ++ new →
    (∀ m, Output.flushCall m ∉ new) ∧
    (∀ m, Output.closeCall m ∈ new → i = .teardown m ∧ s.connected m = true) ∧
    (∀ m x, Output.openCall m x ∈ new →
      (∃ iface, i = .setup m iface ∧ x = some iface) ∨
      (i = .tick m ∧ (s.session m).reconnect.armed = true ∧ x = (s.session m).iface)) ∧
    (new.filter isOpen).length ≤ 1 ∧
    (∀ m f, Output.writeCall m f ∈ new →
      ((∃ iface, i = .setup m iface) ∨ i = .tick m) ∧
      ∃ tbl, s.Ready tbl ∧ (f = requestFrame tbl 0x1705#16 ∨ f = requestFrame tbl 0x1009#16))

/-- R193, which the spec marks "[derived: from rules R180 to R192]": CONN is emitted by a SETUP that creates the
session and at every change of an active session's link, at those points only, and says what connected(s) then is. -/
def Obligations.ConnReportsMatchLevel : Prop :=
  ∀ (i : Instr) (s t : State) (new : List Output), s.Inv → exec i s = .next t → t.outbox = s.outbox ++ new →
    (∀ m b, Output.conn m b ∈ new → b = t.connected m ∧
      (((s.session m).active = false ∧ (t.session m).active = true ∧ ∃ iface, i = .setup m iface) ∨
        ((s.session m).active = true ∧ (t.session m).active = true ∧
          (t.session m).link ≠ (s.session m).link))) ∧
    (∀ m, (t.session m).active = true →
      ((s.session m).active = false ∨ (t.session m).link ≠ (s.session m).link) →
      Output.conn m (t.connected m) ∈ new) ∧
    (new.filter isConn).length ≤ 1

/-- R194, which the spec marks "[derived: from rules R180 to R192]", and R260: the link state changes only in SETUP, a
reconnect attempt whose open succeeds, ERROR, CLOSED, TEARDOWN, and RESET; never because of data or its absence. -/
def Obligations.LinkFollowsTransportAlone : Prop :=
  ∀ (i : Instr) (m : Nat) (s t : State), exec i s = .next t → (t.session m).link ≠ (s.session m).link →
    i = .reset ∨ (∃ iface, i = .setup m iface ∧ s.nextOpen = true) ∨
    (i = .tick m ∧ (s.session m).reconnect.armed = true ∧ s.nextOpen = true) ∨
    (∃ sig, i = .error m sig) ∨ i = .closed m ∨ i = .teardown m

/-- R58, R61: a step runs the instruction its input decodes to. What it does with no input, with an input that is no
event (log 8) and in a refused configuration (log 11) is the model's choice. -/
def Obligations.StepRunsDecodedInput : Prop :=
  ∀ (s : State) (input : Input) (rest : List Input), s.legalConfig = true → s.inbox = input :: rest →
    (∀ i, decode s.wireContext input = .ok i → step s = exec i { s with inbox := rest }) ∧
    (∀ e, decode s.wireContext input = .error e →
      step s = .next { s with inbox := rest, refused := true, outcome := .refused (.undecodable e) }) ∧
    (∀ tbl, s.Ready tbl → s.wireContext = ⟨tbl, s.cfg.testerIdCode⟩)

/-- R260, R242: with nothing delivered the block waits (log 1). -/
def Obligations.StepWaitsForInput : Prop :=
  ∀ s : State, s.legalConfig = true → s.inbox = [] → step s = .next s

/-- R20, and R28 and R29, which the spec marks as derived ("These hold after reset"): the invariants hold after reset.
-/
def Obligations.InvariantAtReset : Prop := State.reset.Inv ∧ State.reset.legalConfig = true

/-- R28 ("Every rule of 43_link_session.md preserves them") and R29, which the spec marks as derived, and R21: every
step keeps the invariants, from any state that has them. -/
def Obligations.StepKeepsInvariant : Prop :=
  ∀ s t : State, s.Inv → step s = .next t → t.Inv

/-! ## Encoding -/

/-- R71, R73, R77, R84: decoding an encoded well-formed instruction gives it back, for every instruction, CRC table
and TESTER_ID_CODE. The operand layout of event records is the model's (log 3), and so are the three channels (log 4).
-/
def Obligations.DecodeEncodeRoundTrip : Prop :=
  ∀ (w : WireContext) (i : Instr), wellFormed w i = true → decode w (encode w i) = .ok i

/-- R81 ("falls into exactly one class"), R71 and R84: what the decoder accepts is well formed, and encoding it gives the
same bytes, so nothing of an input is lost; a received buffer is always accepted. The operand layout of event records
is the model's (log 3), and so are the three channels (log 4). -/
def Obligations.EncodeDecodeRoundTrip : Prop :=
  ∀ (w : WireContext) (input : Input),
    (∀ i, decode w input = .ok i → wellFormed w i = true ∧ encode w i = input) ∧
    (∀ link buf, input = .received link buf → ∃ i, decode w input = .ok i)

/-- R71, R73, R84: words written out from the spec's encodings decode to the instruction they stand for, under
POLY 0xA001; and reserved tags are rejected by name. The operand bytes of event records are the model's layout
(log 3). -/
def Obligations.SpecWordsDecode : Prop :=
  decode hardwareContext (.event [0x00#8]) = .ok .reset ∧
  decode hardwareContext (.event [0x01#8, 0xA0#8, 0x01#8]) = .ok (.crcInit 0xA001#16) ∧
  decode hardwareContext (.event [0x12#8, 0x00#8, 0x00#8, 0x00#8, 0x01#8]) = .ok (.tick 1) ∧
  decode hardwareContext (.event [0x05#8]) = .error (.unknownTag 0x05#8) ∧
  decode hardwareContext (.request [0x02#8, 0x05#8, 0x02#8, 0x17#8, 0x05#8, 0x6E#8, 0xFF#8, 0x03#8]) =
    .ok .reqTotalEnergy ∧
  decode hardwareContext (.received 0 [0x02#8, 0x06#8, 0x01#8, 0x04#8, 0x10#8, 0x09#8, 0x01#8, 0xF4#8, 0x42#8,
    0xC4#8, 0x03#8]) = .ok (.rspCurrentPower 0 0x01F4#16 0x03#8) ∧
  decode hardwareContext (.received 0 [0x02#8, 0x06#8, 0x01#8, 0x04#8, 0x12#8, 0x34#8, 0x00#8, 0x01#8, 0x13#8,
    0x67#8, 0x03#8]) = .ok (.rspUnknown 0 0x1234#16 [0x00#8, 0x01#8] 0x03#8)
end

