-- ==== Sys2Proof/Laws/Codec.lean ====
section
/-! SUPPORT. Byte order round trips, and what a response frame is: the gates accept exactly the frames that
`responseFrame` makes of at most 255 payload bytes. -/

namespace Sys2Proof.Machine

/-! Byte order, as numbers. -/

theorem toNat_lo8 (v : Half) : (lo8 v).toNat = v.toNat % 256 := by simp [lo8]

theorem toNat_hi8 (v : Half) : (hi8 v).toNat = v.toNat / 256 := by
  have := v.isLt
  simp [hi8, Nat.shiftRight_eq_div_pow]
  omega

theorem toNat_be16 (a b : Byte) : (be16 a b).toNat = a.toNat * 256 + b.toNat := by
  have ha := a.isLt
  have hb := b.isLt
  have h : a.toNat <<< 8 ||| b.toNat = a.toNat <<< 8 + b.toNat :=
    (Nat.shiftLeft_add_eq_or_of_lt hb a.toNat).symm
  simp only [be16, BitVec.toNat_or, BitVec.toNat_shiftLeft, BitVec.toNat_setWidth]
  rw [Nat.mod_eq_of_lt (a := a.toNat) (by omega), Nat.mod_eq_of_lt (a := b.toNat) (by omega),
    Nat.mod_eq_of_lt (by rw [Nat.shiftLeft_eq]; omega), h, Nat.shiftLeft_eq]

theorem toNat_be32 (a b c d : Byte) :
    (be32 a b c d).toNat = a.toNat * 2 ^ 24 + b.toNat * 2 ^ 16 + c.toNat * 256 + d.toNat := by
  have ha := a.isLt
  have hb := b.isLt
  have hc := c.isLt
  have hd := d.isLt
  have e1 : a.toNat <<< 24 ||| b.toNat <<< 16 = a.toNat <<< 24 + b.toNat <<< 16 :=
    (Nat.shiftLeft_add_eq_or_of_lt (by rw [Nat.shiftLeft_eq]; omega) a.toNat).symm
  have f1 : a.toNat <<< 24 + b.toNat <<< 16 = (a.toNat * 256 + b.toNat) <<< 16 := by
    simp only [Nat.shiftLeft_eq]; omega
  have e2 : (a.toNat * 256 + b.toNat) <<< 16 ||| c.toNat <<< 8 =
      (a.toNat * 256 + b.toNat) <<< 16 + c.toNat <<< 8 :=
    (Nat.shiftLeft_add_eq_or_of_lt (by rw [Nat.shiftLeft_eq]; omega) _).symm
  have f2 : (a.toNat * 256 + b.toNat) <<< 16 + c.toNat <<< 8 =
      ((a.toNat * 256 + b.toNat) * 256 + c.toNat) <<< 8 := by simp only [Nat.shiftLeft_eq]; omega
  have e3 : ((a.toNat * 256 + b.toNat) * 256 + c.toNat) <<< 8 ||| d.toNat =
      ((a.toNat * 256 + b.toNat) * 256 + c.toNat) <<< 8 + d.toNat :=
    (Nat.shiftLeft_add_eq_or_of_lt hd _).symm
  have m1 : a.toNat <<< 24 % 2 ^ 32 = a.toNat <<< 24 := Nat.mod_eq_of_lt (by rw [Nat.shiftLeft_eq]; omega)
  have m2 : b.toNat <<< 16 % 2 ^ 32 = b.toNat <<< 16 := Nat.mod_eq_of_lt (by rw [Nat.shiftLeft_eq]; omega)
  have m3 : c.toNat <<< 8 % 2 ^ 32 = c.toNat <<< 8 := Nat.mod_eq_of_lt (by rw [Nat.shiftLeft_eq]; omega)
  simp only [be32, BitVec.toNat_or, BitVec.toNat_shiftLeft, BitVec.toNat_setWidth]
  rw [Nat.mod_eq_of_lt (a := a.toNat) (by omega), Nat.mod_eq_of_lt (a := b.toNat) (by omega),
    Nat.mod_eq_of_lt (a := c.toNat) (by omega), Nat.mod_eq_of_lt (a := d.toNat) (by omega),
    m1, m2, m3, e1, f1, e2, f2, e3, Nat.shiftLeft_eq]
  omega

theorem toNat_extract8 (v : Word) (k : Nat) : (v.extractLsb' k 8).toNat = v.toNat / 2 ^ k % 256 := by
  simp [Nat.shiftRight_eq_div_pow]

/-! Round trips. -/

@[simp] theorem be16_hi_lo (v : Half) : be16 (hi8 v) (lo8 v) = v :=
  BitVec.eq_of_toNat_eq (by rw [toNat_be16, toNat_hi8, toNat_lo8]; omega)

@[simp] theorem hi8_be16 (a b : Byte) : hi8 (be16 a b) = a :=
  BitVec.eq_of_toNat_eq (by have := b.isLt; rw [toNat_hi8, toNat_be16]; omega)

@[simp] theorem lo8_be16 (a b : Byte) : lo8 (be16 a b) = b :=
  BitVec.eq_of_toNat_eq (by have := b.isLt; rw [toNat_lo8, toNat_be16]; omega)

@[simp] theorem be32_bytes (v : Word) :
    be32 (v.extractLsb' 24 8) (v.extractLsb' 16 8) (v.extractLsb' 8 8) (v.extractLsb' 0 8) = v :=
  BitVec.eq_of_toNat_eq (by
    have := v.isLt
    rw [toNat_be32, toNat_extract8, toNat_extract8, toNat_extract8, toNat_extract8]; omega)

theorem bytesOfWord_be32 (a b c d : Byte) : bytesOfWord (be32 a b c d) = [a, b, c, d] := by
  have ha := a.isLt
  have hb := b.isLt
  have hc := c.isLt
  have hd := d.isLt
  simp only [bytesOfWord, List.cons.injEq, and_true]
  refine ⟨?_, ?_, ?_, ?_⟩ <;> apply BitVec.eq_of_toNat_eq <;> rw [toNat_extract8, toNat_be32] <;> omega

theorem bytesOfHalf_be16 (a b : Byte) : bytesOfHalf (be16 a b) = [a, b] := by simp [bytesOfHalf]

/-- A session index below 2^32 survives its record field. -/
theorem indexOfBytes_bytesOfIndex {n : Nat} (h : n < 2 ^ 32) :
    ∃ b3 b2 b1 b0, bytesOfIndex n = [b3, b2, b1, b0] ∧ indexOfBytes b3 b2 b1 b0 = n := by
  refine ⟨_, _, _, _, rfl, ?_⟩
  simp only [indexOfBytes, be32_bytes, BitVec.toNat_ofNat]
  omega

theorem be16_inj {a b c d : Byte} : be16 a b = be16 c d ↔ a = c ∧ b = d := by
  refine ⟨fun h => ⟨?_, ?_⟩, fun h => by rw [h.1, h.2]⟩
  · simpa using congrArg hi8 h
  · simpa using congrArg lo8 h

/-! The registry. -/

/-- R160: the two rows of the registry. -/
theorem registryFind_eq (code : Half) : registryFind code =
    if code = 0x1705#16 then some .totalEnergy
    else if code = 0x1009#16 then some .currentPower
    else none := by
  unfold registryFind registry
  by_cases h : code = 0x1705#16
  · subst h; rfl
  · by_cases h2 : code = 0x1009#16
    · subst h2; rfl
    · have e1 : ¬ 0x1705#16 = code := fun e => h e.symm
      have e2 : ¬ 0x1009#16 = code := fun e => h2 e.symm
      simp [registeredCode, h, h2, e1, e2]

/-! Response frames. -/

section Response
variable (t : CrcTable) (payload : List Byte) (trailer oob : Byte)

theorem responseFrame_eq : responseFrame t payload trailer =
    0x02#8 :: 0x06#8 :: 0x01#8 :: BitVec.ofNat 8 payload.length ::
      (payload ++ [lo8 (crcOf t (responseBody payload)), hi8 (crcOf t (responseBody payload)), trailer]) := by
  simp [responseFrame, responseBody]

theorem length_responseFrame : (responseFrame t payload trailer).length = payload.length + 7 := by
  simp [responseFrame_eq]

theorem lenField_responseFrame (h : payload.length ≤ 255) :
    lenField oob (responseFrame t payload trailer) = payload.length := by
  simp [lenField, readByte, responseFrame_eq]
  omega

theorem slice_responseFrame_body :
    slice (responseFrame t payload trailer) 1 (payload.length + 3) = responseBody payload := by
  simp [slice, responseFrame_eq, responseBody]

theorem readByte_responseFrame_payload {i : Nat} (h : i < payload.length) :
    readByte oob (responseFrame t payload trailer) (i + 4) = readByte oob payload i := by
  simp [readByte, responseFrame_eq, List.getElem?_append_left h]

theorem slice_responseFrame_payload {k : Nat} (h : k ≤ payload.length) :
    slice (responseFrame t payload trailer) (k + 4) (payload.length + 3) = payload.drop k := by
  simp only [slice, responseFrame_eq]
  simp only [List.drop_succ_cons]
  rw [List.drop_append_of_le_length h]
  have : payload.length + 3 + 1 - (k + 4) = (payload.drop k).length := by rw [List.length_drop]; omega
  rw [this, List.take_left]

theorem readByte_responseFrame_tail (i : Nat) :
    readByte oob (responseFrame t payload trailer) (payload.length + 4 + i) =
      readByte oob [lo8 (crcOf t (responseBody payload)), hi8 (crcOf t (responseBody payload)), trailer] i := by
  have : payload.length + 4 + i = (payload.length + i) + 4 := by omega
  rw [this, responseFrame_eq]
  simp only [readByte, List.getD_cons_succ]
  rw [List.getD_append_right _ _ _ _ (by omega)]
  congr 1
  omega

/-- The gates accept a response frame (R81 rows 1 to 5). -/
theorem gateError_responseFrame (h : payload.length ≤ 255) :
    gateError oob t (responseFrame t payload trailer) = none := by
  have hl := lenField_responseFrame t payload trailer oob h
  have h0 := readByte_responseFrame_tail t payload trailer oob 0
  have h1 := readByte_responseFrame_tail t payload trailer oob 1
  simp only [gateError, hl, slice_responseFrame_body, length_responseFrame]
  rw [if_neg (by omega), if_neg (by simp [responseFrame_eq, readByte]), if_neg (by omega),
    if_neg (by simpa [readByte] using h0), if_neg (by simpa [readByte] using h1)]

theorem readByte_responseFrame_trailer (h : payload.length ≤ 255) :
    readByte oob (responseFrame t payload trailer)
      (lenField oob (responseFrame t payload trailer) + 6) = trailer := by
  rw [lenField_responseFrame t payload trailer oob h]
  exact readByte_responseFrame_tail t payload trailer oob 2

end Response

/-- The gates accept nothing but response frames: a buffer they accept is the frame of its own payload. -/
theorem eq_responseFrame_of_gate {oob : Byte} {t : CrcTable} {buf : List Byte}
    (h : gateError oob t buf = none) :
    ∃ payload trailer, payload.length ≤ 255 ∧ buf = responseFrame t payload trailer := by
  simp only [gateError] at h
  split at h
  · cases h
  rename_i h4
  split at h
  · cases h
  rename_i hh
  split at h
  · cases h
  rename_i hs
  split at h
  · cases h
  rename_i hlo
  split at h
  · cases h
  rename_i hhi
  simp only [not_or, not_not] at hh hs hlo hhi
  match buf, h4, hh, hs, hlo, hhi with
  | a :: b :: c :: l :: rest, _, hh, hs, hlo, hhi =>
    have hlen : lenField oob (a :: b :: c :: l :: rest) = l.toNat := rfl
    rw [hlen] at hs hlo hhi
    simp only [List.length_cons] at hs
    have hr : rest.length = l.toNat + 3 := by omega
    have hll := l.isLt
    obtain ⟨p, x, y, z, rfl, hp⟩ : ∃ p x y z, rest = p ++ [x, y, z] ∧ p.length = l.toNat := by
      have h1 := List.take_append_drop l.toNat rest
      have h2 : (rest.drop l.toNat).length = 3 := by simp [hr]
      match hd : rest.drop l.toNat, h2 with
      | [x, y, z], _ =>
        exact ⟨rest.take l.toNat, x, y, z, by rw [← hd, h1], by simp [hr]⟩
    obtain ⟨ha, hb, hc⟩ := hh
    simp only [readByte, List.getD_cons_zero, List.getD_cons_succ] at ha hb hc hlo hhi
    subst ha hb hc
    have hL : BitVec.ofNat 8 p.length = l := by rw [hp]; simp
    have hbody : slice (0x02#8 :: 0x06#8 :: 0x01#8 :: l :: (p ++ [x, y, z])) 1 (l.toNat + 3) =
        responseBody p := by
      simp [slice, responseBody, hL, ← hp]
    rw [hbody] at hlo hhi
    have hx : (p ++ [x, y, z]).getD l.toNat oob = x := by simp [← hp]
    have hy : (p ++ [x, y, z]).getD (l.toNat + 1) oob = y := by simp [← hp]
    refine ⟨p, z, by omega, ?_⟩
    rw [responseFrame_eq, hL, ← hlo, ← hhi, hx, hy]

end Sys2Proof.Machine
end

