-- ==== Sys2Proof/Laws/Crc.lean ====
section
/-! SUPPORT. Reading the table CRC_INIT builds, and the fold's own laws. -/

namespace Sys2Proof.Machine

/-- R100, R101: reading entry `i` of the table of `poly`. -/
@[simp] theorem tableRead_crcTableOf (poly : Half) (i : Byte) :
    tableRead (crcTableOf poly) i = crcTableEntry poly i := by simp [tableRead, crcTableOf]

/-- R102: the empty sequence leaves the register at its start value. -/
@[simp] theorem crcOf_nil (t : CrcTable) : crcOf t [] = 0x0000#16 := rfl

/-- R102: the fold goes left to right, so a longer sequence continues from the shorter one's register. -/
theorem crcOf_append (t : CrcTable) (xs ys : List Byte) :
    crcOf t (xs ++ ys) = ys.foldl (crcStep t) (crcOf t xs) := by simp [crcOf]

end Sys2Proof.Machine
end

