-- ==== Sys2Proof/Laws/State.lean ====
section
/-! SUPPORT. One lemma per field and update: what `emit`, `setSession`, `refuse`, `afterOpen` and `afterWrite` leave of
each field; and reading a session record back. -/

namespace Sys2Proof.Machine

section Fields
variable (s : State) (o : Output) (n : Nat) (r : Session) (e : RefuseReason)

@[simp] theorem cfg_emit : (s.emit o).cfg = s.cfg := rfl
@[simp] theorem crcReady_emit : (s.emit o).crcReady = s.crcReady := rfl
@[simp] theorem crcPoly_emit : (s.emit o).crcPoly = s.crcPoly := rfl
@[simp] theorem crcTable_emit : (s.emit o).crcTable = s.crcTable := rfl
@[simp] theorem sessions_emit : (s.emit o).sessions = s.sessions := rfl
@[simp] theorem refused_emit : (s.emit o).refused = s.refused := rfl
@[simp] theorem inbox_emit : (s.emit o).inbox = s.inbox := rfl
@[simp] theorem outbox_emit : (s.emit o).outbox = s.outbox ++ [o] := rfl
@[simp] theorem outcome_emit : (s.emit o).outcome = s.outcome := rfl
@[simp] theorem openAnswers_emit : (s.emit o).openAnswers = s.openAnswers := rfl
@[simp] theorem writeAnswers_emit : (s.emit o).writeAnswers = s.writeAnswers := rfl
@[simp] theorem draws_emit : (s.emit o).draws = s.draws := rfl
@[simp] theorem readyTable_emit : (s.emit o).readyTable = s.readyTable := rfl
@[simp] theorem nextOpen_emit : (s.emit o).nextOpen = s.nextOpen := rfl
@[simp] theorem nextWrite_emit : (s.emit o).nextWrite = s.nextWrite := rfl

@[simp] theorem cfg_setSession : (s.setSession n r).cfg = s.cfg := rfl
@[simp] theorem crcReady_setSession : (s.setSession n r).crcReady = s.crcReady := rfl
@[simp] theorem crcPoly_setSession : (s.setSession n r).crcPoly = s.crcPoly := rfl
@[simp] theorem crcTable_setSession : (s.setSession n r).crcTable = s.crcTable := rfl
@[simp] theorem sessions_setSession : (s.setSession n r).sessions = s.sessions.set n r := rfl
@[simp] theorem refused_setSession : (s.setSession n r).refused = s.refused := rfl
@[simp] theorem inbox_setSession : (s.setSession n r).inbox = s.inbox := rfl
@[simp] theorem outbox_setSession : (s.setSession n r).outbox = s.outbox := rfl
@[simp] theorem outcome_setSession : (s.setSession n r).outcome = s.outcome := rfl
@[simp] theorem openAnswers_setSession : (s.setSession n r).openAnswers = s.openAnswers := rfl
@[simp] theorem writeAnswers_setSession : (s.setSession n r).writeAnswers = s.writeAnswers := rfl
@[simp] theorem draws_setSession : (s.setSession n r).draws = s.draws := rfl
@[simp] theorem readyTable_setSession : (s.setSession n r).readyTable = s.readyTable := rfl
@[simp] theorem nextOpen_setSession : (s.setSession n r).nextOpen = s.nextOpen := rfl
@[simp] theorem nextWrite_setSession : (s.setSession n r).nextWrite = s.nextWrite := rfl

@[simp] theorem cfg_refuse : (s.refuse e).cfg = s.cfg := rfl
@[simp] theorem crcReady_refuse : (s.refuse e).crcReady = s.crcReady := rfl
@[simp] theorem crcPoly_refuse : (s.refuse e).crcPoly = s.crcPoly := rfl
@[simp] theorem crcTable_refuse : (s.refuse e).crcTable = s.crcTable := rfl
@[simp] theorem sessions_refuse : (s.refuse e).sessions = s.sessions := rfl
@[simp] theorem refused_refuse : (s.refuse e).refused = true := rfl
@[simp] theorem inbox_refuse : (s.refuse e).inbox = s.inbox := rfl
@[simp] theorem outbox_refuse : (s.refuse e).outbox = s.outbox := rfl
@[simp] theorem outcome_refuse : (s.refuse e).outcome = .refused e := rfl
@[simp] theorem openAnswers_refuse : (s.refuse e).openAnswers = s.openAnswers := rfl
@[simp] theorem writeAnswers_refuse : (s.refuse e).writeAnswers = s.writeAnswers := rfl
@[simp] theorem draws_refuse : (s.refuse e).draws = s.draws := rfl
@[simp] theorem readyTable_refuse : (s.refuse e).readyTable = s.readyTable := rfl
@[simp] theorem nextOpen_refuse : (s.refuse e).nextOpen = s.nextOpen := rfl
@[simp] theorem nextWrite_refuse : (s.refuse e).nextWrite = s.nextWrite := rfl

@[simp] theorem cfg_afterOpen : (s.afterOpen).cfg = s.cfg := rfl
@[simp] theorem crcReady_afterOpen : (s.afterOpen).crcReady = s.crcReady := rfl
@[simp] theorem crcPoly_afterOpen : (s.afterOpen).crcPoly = s.crcPoly := rfl
@[simp] theorem crcTable_afterOpen : (s.afterOpen).crcTable = s.crcTable := rfl
@[simp] theorem sessions_afterOpen : (s.afterOpen).sessions = s.sessions := rfl
@[simp] theorem refused_afterOpen : (s.afterOpen).refused = s.refused := rfl
@[simp] theorem inbox_afterOpen : (s.afterOpen).inbox = s.inbox := rfl
@[simp] theorem outbox_afterOpen : (s.afterOpen).outbox = s.outbox := rfl
@[simp] theorem outcome_afterOpen : (s.afterOpen).outcome = s.outcome := rfl
@[simp] theorem openAnswers_afterOpen : (s.afterOpen).openAnswers = s.openAnswers.tail := rfl
@[simp] theorem writeAnswers_afterOpen : (s.afterOpen).writeAnswers = s.writeAnswers := rfl
@[simp] theorem draws_afterOpen : (s.afterOpen).draws = if s.openAnswers.isEmpty then s.draws + 1 else s.draws := rfl
@[simp] theorem readyTable_afterOpen : (s.afterOpen).readyTable = s.readyTable := rfl

@[simp] theorem cfg_afterWrite : (s.afterWrite).cfg = s.cfg := rfl
@[simp] theorem crcReady_afterWrite : (s.afterWrite).crcReady = s.crcReady := rfl
@[simp] theorem crcPoly_afterWrite : (s.afterWrite).crcPoly = s.crcPoly := rfl
@[simp] theorem crcTable_afterWrite : (s.afterWrite).crcTable = s.crcTable := rfl
@[simp] theorem sessions_afterWrite : (s.afterWrite).sessions = s.sessions := rfl
@[simp] theorem refused_afterWrite : (s.afterWrite).refused = s.refused := rfl
@[simp] theorem inbox_afterWrite : (s.afterWrite).inbox = s.inbox := rfl
@[simp] theorem outbox_afterWrite : (s.afterWrite).outbox = s.outbox := rfl
@[simp] theorem outcome_afterWrite : (s.afterWrite).outcome = s.outcome := rfl
@[simp] theorem openAnswers_afterWrite : (s.afterWrite).openAnswers = s.openAnswers := rfl
@[simp] theorem writeAnswers_afterWrite : (s.afterWrite).writeAnswers = s.writeAnswers.tail := rfl
@[simp] theorem draws_afterWrite : (s.afterWrite).draws = if s.writeAnswers.isEmpty then s.draws + 1 else s.draws := rfl
@[simp] theorem readyTable_afterWrite : (s.afterWrite).readyTable = s.readyTable := rfl
end Fields

/-! Reading a record back. -/

@[simp] theorem nSessions_setSession (s : State) (n : Nat) (r : Session) :
    (s.setSession n r).nSessions = s.nSessions := by simp [State.setSession, State.nSessions]

@[simp] theorem nSessions_emit (s : State) (o : Output) : (s.emit o).nSessions = s.nSessions := rfl
@[simp] theorem nSessions_afterOpen (s : State) : s.afterOpen.nSessions = s.nSessions := rfl
@[simp] theorem nSessions_afterWrite (s : State) : s.afterWrite.nSessions = s.nSessions := rfl

@[simp] theorem session_emit (s : State) (o : Output) (n : Nat) : (s.emit o).session n = s.session n := rfl
@[simp] theorem session_refuse (s : State) (e : RefuseReason) (n : Nat) :
    (s.refuse e).session n = s.session n := rfl
@[simp] theorem session_afterOpen (s : State) (n : Nat) : s.afterOpen.session n = s.session n := rfl
@[simp] theorem session_afterWrite (s : State) (n : Nat) : s.afterWrite.session n = s.session n := rfl

theorem session_setSession_same {s : State} {n : Nat} (r : Session) (h : n < s.nSessions) :
    (s.setSession n r).session n = r := by
  have h' : n < s.sessions.length := h
  simp [State.setSession, State.session, h']

theorem session_setSession_ne {s : State} {m n : Nat} (r : Session) (h : m ≠ n) :
    (s.setSession n r).session m = s.session m := by
  simp [State.setSession, State.session, h.symm]

theorem session_of_ge {s : State} {n : Nat} (h : s.nSessions ≤ n) : s.session n = Session.reset := by
  have h' : s.sessions.length ≤ n := h
  simp [State.session, List.getElem?_eq_none h']

theorem setSession_setSession (s : State) (n : Nat) (r r' : Session) :
    (s.setSession n r).setSession n r' = s.setSession n r' := by
  simp [State.setSession]

theorem session_mem {s : State} {n : Nat} (h : n < s.nSessions) : s.session n ∈ s.sessions := by
  have h' : n < s.sessions.length := h
  simp [State.session, List.getElem?_eq_getElem h']

end Sys2Proof.Machine
end

