-- ==== Sys2Proof/Laws/Ops.lean ====
section
/-! SUPPORT. One lemma per shared operation that says once what it does. -/

namespace Sys2Proof.Machine

/-! The end of a step. -/

@[simp] theorem finish_ok (s t : State) : finish s (.ok t) = .next { t with outcome := .done } := rfl
@[simp] theorem finish_error (s : State) (r : RefuseReason) : finish s (.error r) = .next (s.refuse r) := rfl

/-- A step ends done, with the state its action gives, or refused, with nothing written but the mark. -/
theorem finish_cases {s t : State} {act : Except RefuseReason State} (h : finish s act = .next t) :
    (∃ u, act = .ok u ∧ t = { u with outcome := .done }) ∨ (∃ r, act = .error r ∧ t = s.refuse r) := by
  cases act with
  | ok u => exact .inl ⟨u, rfl, by simpa using h.symm⟩
  | error r => exact .inr ⟨r, rfl, by simpa using h.symm⟩

theorem onSession_of_lt {n : Nat} {s : State} (act : Except RefuseReason State) (h : n < s.nSessions) :
    onSession n s act = finish s act := by simp [onSession, Nat.not_le.2 h]

theorem onSession_of_ge {n : Nat} {s : State} (act : Except RefuseReason State) (h : s.nSessions ≤ n) :
    onSession n s act = .next (s.refuse .badSession) := by simp [onSession, h]

theorem onActiveSession_of_active {n : Nat} {s : State} (act : Except RefuseReason State)
    (h : n < s.nSessions) (ha : (s.session n).active = true) : onActiveSession n s act = finish s act := by
  simp [onActiveSession, onSession_of_lt _ h, ha]

theorem onActiveSession_of_inactive {n : Nat} {s : State} (act : Except RefuseReason State)
    (h : n < s.nSessions) (ha : (s.session n).active = false) :
    onActiveSession n s act = .next { s with outcome := .done } := by
  simp [onActiveSession, onSession_of_lt _ h, ha]

theorem onActiveSession_of_ge {n : Nat} {s : State} (act : Except RefuseReason State) (h : s.nSessions ≤ n) :
    onActiveSession n s act = .next (s.refuse .badSession) := onSession_of_ge _ h

/-! The CRC table. -/

theorem readyTable_of_ready {s : State} {t : CrcTable} (h : s.crcReady = true) (ht : s.crcTable = some t) :
    s.readyTable = some t := by simp [State.readyTable, h, ht]

theorem readyTable_of_not_ready {s : State} (h : s.crcReady = false) : s.readyTable = none := by
  simp [State.readyTable, h]

theorem readyTable_eq_some {s : State} {t : CrcTable} :
    s.readyTable = some t ↔ s.crcReady = true ∧ s.crcTable = some t := by
  cases h : s.crcReady <;> simp [State.readyTable, h]

theorem withTable_some {s : State} {t : CrcTable} (k : CrcTable → State) (h : s.readyTable = some t) :
    withTable s k = .ok (k t) := by simp [withTable, h]

theorem withTable_none {s : State} (k : CrcTable → State) (h : s.readyTable = none) :
    withTable s k = .error .crcNotReady := by simp [withTable, h]

theorem buildFrame_some {s : State} {t : CrcTable} {cmd : CommandId} {code : Half}
    (hc : codeOf s.cfg.testerIdCode cmd = some code) (h : s.readyTable = some t) :
    buildFrame s cmd = .ok (requestFrame t code) := by simp [buildFrame, hc, h]

theorem buildFrame_not_ready {s : State} {cmd : CommandId} {code : Half}
    (hc : codeOf s.cfg.testerIdCode cmd = some code) (h : s.readyTable = none) :
    buildFrame s cmd = .error .crcNotReady := by simp [buildFrame, hc, h]

theorem buildFrame_unknown {s : State} {cmd : CommandId} (hc : codeOf s.cfg.testerIdCode cmd = none) :
    buildFrame s cmd = .error .testerIdUnknown := by simp [buildFrame, hc]

theorem returnBuild_some {s : State} {t : CrcTable} {cmd : CommandId} {code : Half}
    (hc : codeOf s.cfg.testerIdCode cmd = some code) (h : s.readyTable = some t) :
    returnBuild s cmd = .ok (s.emit (.returnFrame (requestFrame t code))) := by
  simp only [returnBuild, buildFrame_some hc h, bind, Except.bind]
  rfl

theorem returnBuild_not_ready {s : State} {cmd : CommandId} {code : Half}
    (hc : codeOf s.cfg.testerIdCode cmd = some code) (h : s.readyTable = none) :
    returnBuild s cmd = .error .crcNotReady := by
  simp only [returnBuild, buildFrame_not_ready hc h, bind, Except.bind]

theorem returnBuild_unknown {s : State} {cmd : CommandId} (hc : codeOf s.cfg.testerIdCode cmd = none) :
    returnBuild s cmd = .error .testerIdUnknown := by
  simp only [returnBuild, buildFrame_unknown hc, bind, Except.bind]

/-! Writes and polls. -/

@[simp] theorem length_requestFrame (t : CrcTable) (code : Half) : (requestFrame t code).length = 8 := rfl

/-- R184: a write uses one result of the host and sends the frame and, when short, its diagnostic. -/
theorem tx_eq (n : Nat) (f : List Byte) (s : State) :
    tx n f s = { s.afterWrite with
      outbox := s.outbox ++ (.writeCall n f :: shortWrite n f.length s.nextWrite) } := by
  by_cases h : s.nextWrite = (f.length : Int) <;>
    simp [tx, State.callWrite, shortWrite, h, State.emit, State.afterWrite]

/-- R183: a poll uses two results of the host and sends the two requests, each with its diagnostic. -/
theorem poll_eq (n : Nat) {s : State} {t : CrcTable} (h : s.readyTable = some t) :
    poll n s = .ok { s.afterWrite.afterWrite with
      outbox := s.outbox ++ pollOutputs t n s.nextWrite s.afterWrite.nextWrite } := by
  have h1 := buildFrame_some (s := s) (t := t) (cmd := .totalEnergy) rfl h
  have h2 := buildFrame_some (s := tx n (requestFrame t (registeredCode .totalEnergy)) s) (t := t)
    (cmd := .currentPower) rfl (by rw [tx_eq]; exact h)
  simp only [poll, h1, h2, bind, Except.bind, pure, Except.pure]
  rw [tx_eq, tx_eq]
  simp [pollOutputs, registeredCode, State.afterWrite, State.nextWrite]

/-- R183: without a table a poll is refused. -/
theorem poll_not_ready (n : Nat) {s : State} (h : s.readyTable = none) : poll n s = .error .crcNotReady := by
  have h1 := buildFrame_not_ready (s := s) (cmd := .totalEnergy) rfl h
  simp [poll, h1, bind, Except.bind]

/-! Entering and leaving Connected. -/

/-- R181. -/
theorem enterConnected_eq {n : Nat} {s : State} {t : CrcTable} (hn : n < s.nSessions)
    (h : s.readyTable = some t) :
    enterConnected n s = .ok { s.afterWrite.afterWrite with
      sessions := s.sessions.set n { s.session n with
        link := .connected, poll := armedTimer s.cfg.pollInterval, reconnect := disarmedTimer }
      outbox := s.outbox ++ .conn n true :: pollOutputs t n s.nextWrite s.afterWrite.nextWrite } := by
  let r : Session := { s.session n with link := .connected, reconnect := disarmedTimer }
  have hp := poll_eq n (s := (s.setSession n r).emit (.conn n true)) (t := t) (by simpa using h)
  have hr := session_setSession_same r hn
  simp only [enterConnected, bind, Except.bind, pure, Except.pure]
  rw [hp]
  have hs : (State.session { ((s.setSession n r).emit (.conn n true)).afterWrite.afterWrite with
      outbox := ((s.setSession n r).emit (.conn n true)).outbox ++
        pollOutputs t n ((s.setSession n r).emit (.conn n true)).nextWrite
          ((s.setSession n r).emit (.conn n true)).afterWrite.nextWrite } n) = r := hr
  simp only [hs]
  simp [State.setSession, State.emit, State.afterWrite, State.nextWrite, r]

/-- R181, R183: without a table, entering Connected is refused. -/
theorem enterConnected_not_ready {n : Nat} {s : State} (h : s.readyTable = none) :
    enterConnected n s = .error .crcNotReady := by
  have hp := poll_not_ready n (s := (s.setSession n { s.session n with
    link := .connected, reconnect := disarmedTimer }).emit (.conn n true)) (by simpa using h)
  simp only [enterConnected, bind, Except.bind, hp]

/-- R182. -/
theorem enterDisconnected_eq (n : Nat) (s : State) :
    enterDisconnected n s = { s with
      sessions := s.sessions.set n { s.session n with
        link := .disconnected, poll := disarmedTimer
        reconnect := armedTimer s.cfg.reconnectInterval }
      outbox := s.outbox ++ [.conn n false] } := rfl

/-- R188, R189. -/
theorem transportLost_eq (n : Nat) (e : ErrorCode) (info : DiagInfo) (s : State) :
    transportLost n e info s =
      if (s.session n).link = .connected then
        { s with
          sessions := s.sessions.set n { s.session n with
            link := .disconnected, poll := disarmedTimer
            reconnect := armedTimer s.cfg.reconnectInterval }
          outbox := s.outbox ++ [.diag (some n) e info, .conn n false] }
      else { s with outbox := s.outbox ++ [.diag (some n) e info] } := by
  simp only [transportLost, session_emit]
  by_cases h : (s.session n).link = .connected
  · simp only [h, if_true]
    simp [enterDisconnected_eq, State.emit, State.session]
  · simp only [h, if_false]
    rfl

/-! Timers. -/

/-- R186. -/
theorem pollFire_eq (n : Nat) {s : State} {t : CrcTable} (h : s.readyTable = some t) :
    pollFire n s = .ok { s.afterWrite.afterWrite with
      sessions := s.sessions.set n { s.session n with
        poll := { (s.session n).poll with rem := s.cfg.pollInterval } }
      outbox := s.outbox ++ pollOutputs t n s.nextWrite s.afterWrite.nextWrite } :=
  poll_eq n (s := s.setSession n { s.session n with
    poll := { (s.session n).poll with rem := s.cfg.pollInterval } }) (by simpa using h)

/-- R187, with an open that succeeds. -/
theorem reconnectFire_open {n : Nat} {s : State} {t : CrcTable} (hn : n < s.nSessions)
    (h : s.readyTable = some t) (ho : s.nextOpen = true) :
    reconnectFire n s = .ok { s.afterOpen.afterWrite.afterWrite with
      sessions := s.sessions.set n { s.session n with
        link := .connected, poll := armedTimer s.cfg.pollInterval, reconnect := disarmedTimer }
      outbox := s.outbox ++ .openCall n (s.session n).iface :: .conn n true ::
        pollOutputs t n s.afterOpen.nextWrite s.afterOpen.afterWrite.nextWrite } := by
  let r : Session := { s.session n with reconnect := disarmedTimer }
  have hr := session_setSession_same r hn
  let u := ((s.setSession n r).emit (.openCall n (s.session n).iface)).afterOpen
  have hu : u.session n = r := hr
  have he := enterConnected_eq (n := n) (s := u) (t := t) (by simpa [u] using hn) (by simpa [u] using h)
  have : reconnectFire n s = enterConnected n u := by
    simp only [reconnectFire, State.callOpen, nextOpen_setSession, ho, if_true]
    rfl
  rw [this, he, hu]
  simp [u, r, State.setSession, State.emit, State.afterOpen, State.afterWrite, State.nextWrite]

/-- R187, with an open that fails. -/
theorem reconnectFire_fail {n : Nat} {s : State} (hn : n < s.nSessions) (ho : s.nextOpen = false) :
    reconnectFire n s = .ok { s.afterOpen with
      sessions := s.sessions.set n { s.session n with
        reconnect := armedTimer s.cfg.reconnectInterval }
      outbox := s.outbox ++ [.openCall n (s.session n).iface,
        .diag (some n) .openFail (.iface (s.session n).iface)] } := by
  have hr := session_setSession_same { s.session n with reconnect := disarmedTimer } hn
  simp only [reconnectFire, State.callOpen, nextOpen_setSession, ho, openFailed]
  simp [hr]
  simp [State.setSession, State.emit, State.afterOpen]

/-- R187: without a table, a reconnect attempt that opens is refused. -/
theorem reconnectFire_not_ready {n : Nat} {s : State} (h : s.readyTable = none) (ho : s.nextOpen = true) :
    reconnectFire n s = .error .crcNotReady := by
  simp only [reconnectFire, State.callOpen, nextOpen_setSession, ho, if_true]
  exact enterConnected_not_ready (by simpa using h)

/-- R190. -/
theorem forwardVerdict_eq (n : Nat) (chunk : List Byte) (v : Verdict) (s : State) :
    forwardVerdict n chunk v s = { s with outbox := s.outbox ++ match v with
      | .err e => [.diag (some n) e (.chunk chunk)]
      | .totalEnergy w => [.totalEnergy n w]
      | .currentPower h => [.currentPower n h]
      | .noDispatch => []
      | .ignored _ => [] } := by
  cases v <;> simp [forwardVerdict, State.emit]

end Sys2Proof.Machine
end

