-- ==== Sys2Proof/Laws/Sessions.lean ====
section
/-! SUPPORT. What TICK's body and SETUP's body can do, once and for all: the rows of R195. -/

namespace Sys2Proof.Machine

/-- R185 to R187: everything one tick of session `n` can do. -/
theorem tickTimers_cases {n : Nat} {s u : State} (hn : n < s.nSessions) (h : tickTimers n s = .ok u) :
    -- the poll timer counts
    ((s.session n).poll.armed = true ∧ (s.session n).poll.rem - 1 ≠ 0 ∧
      u = { s with sessions := s.sessions.set n { s.session n with
        poll := { (s.session n).poll with rem := (s.session n).poll.rem - 1 } } }) ∨
    -- the poll timer fires
    ((s.session n).poll.armed = true ∧ (s.session n).poll.rem - 1 = 0 ∧ ∃ t, s.readyTable = some t ∧
      u = { s.afterWrite.afterWrite with
        sessions := s.sessions.set n { s.session n with
          poll := { (s.session n).poll with rem := s.cfg.pollInterval } }
        outbox := s.outbox ++ pollOutputs t n s.nextWrite s.afterWrite.nextWrite }) ∨
    -- the reconnect timer counts
    ((s.session n).poll.armed = false ∧ (s.session n).reconnect.armed = true ∧
      (s.session n).reconnect.rem - 1 ≠ 0 ∧
      u = { s with sessions := s.sessions.set n { s.session n with
        reconnect := { (s.session n).reconnect with rem := (s.session n).reconnect.rem - 1 } } }) ∨
    -- the reconnect timer fires and the open succeeds
    ((s.session n).poll.armed = false ∧ (s.session n).reconnect.armed = true ∧
      (s.session n).reconnect.rem - 1 = 0 ∧ s.nextOpen = true ∧ ∃ t, s.readyTable = some t ∧
      u = { s.afterOpen.afterWrite.afterWrite with
        sessions := s.sessions.set n { s.session n with
          link := .connected, poll := armedTimer s.cfg.pollInterval, reconnect := disarmedTimer }
        outbox := s.outbox ++ .openCall n (s.session n).iface :: .conn n true ::
          pollOutputs t n s.afterOpen.nextWrite s.afterOpen.afterWrite.nextWrite }) ∨
    -- the reconnect timer fires and the open fails
    ((s.session n).poll.armed = false ∧ (s.session n).reconnect.armed = true ∧
      (s.session n).reconnect.rem - 1 = 0 ∧ s.nextOpen = false ∧
      u = { s.afterOpen with
        sessions := s.sessions.set n { s.session n with
          reconnect := armedTimer s.cfg.reconnectInterval }
        outbox := s.outbox ++ [.openCall n (s.session n).iface,
          .diag (some n) .openFail (.iface (s.session n).iface)] }) ∨
    -- no timer runs
    ((s.session n).poll.armed = false ∧ (s.session n).reconnect.armed = false ∧ u = s) := by
  unfold tickTimers at h
  cases hp : (s.session n).poll.armed with
  | true =>
    simp only [hp, if_true] at h
    by_cases hz : (s.session n).poll.rem - 1 = 0
    · rw [if_pos hz] at h
      cases hr : s.readyTable with
      | none =>
        rw [pollFire, poll_not_ready n (by simpa using hr)] at h
        cases h
      | some t =>
        rw [pollFire_eq n (t := t) (by simpa using hr)] at h
        refine .inr (.inl ⟨rfl, hz, t, rfl, ?_⟩)
        rw [session_setSession_same _ hn] at h
        injection h with h
        rw [← h]
        simp [State.setSession, State.afterWrite, State.nextWrite, hp]
    · rw [if_neg hz] at h
      injection h with h
      exact .inl ⟨rfl, hz, by rw [← h]; simp [State.setSession, hp]⟩
  | false =>
    simp only [hp, Bool.false_eq_true, if_false] at h
    cases hc : (s.session n).reconnect.armed with
    | false =>
      simp only [hc, Bool.false_eq_true, if_false] at h
      injection h with h
      exact .inr (.inr (.inr (.inr (.inr ⟨rfl, rfl, h.symm⟩))))
    | true =>
      simp only [hc, if_true] at h
      by_cases hz : (s.session n).reconnect.rem - 1 = 0
      · rw [if_pos hz] at h
        cases ho : s.nextOpen with
        | true =>
          cases hr : s.readyTable with
          | none =>
            rw [reconnectFire_not_ready (by simpa using hr) (by simpa using ho)] at h
            cases h
          | some t =>
            rw [reconnectFire_open (t := t) (by simpa using hn) (by simpa using hr) (by simpa using ho),
              session_setSession_same _ hn] at h
            injection h with h
            refine .inr (.inr (.inr (.inl ⟨rfl, rfl, hz, rfl, t, rfl, ?_⟩)))
            rw [← h]
            simp [State.setSession, State.afterOpen, State.afterWrite, State.nextWrite]
        | false =>
          rw [reconnectFire_fail (by simpa using hn) (by simpa using ho), session_setSession_same _ hn] at h
          injection h with h
          refine .inr (.inr (.inr (.inr (.inl ⟨rfl, rfl, hz, rfl, ?_⟩))))
          rw [← h]
          simp [State.setSession, State.afterOpen]
      · rw [if_neg hz] at h
        injection h with h
        exact .inr (.inr (.inl ⟨rfl, rfl, hz, by rw [← h]; simp [State.setSession, hc]⟩))

/-- R180: a successful open at SETUP. -/
theorem setupSession_open {n : Nat} {iface : InterfaceId} {s : State} {t : CrcTable} (hn : n < s.nSessions)
    (hu : s.ifaceInUse n iface = false) (hr : s.readyTable = some t) (ho : s.nextOpen = true) :
    setupSession n iface s = .ok { s.afterOpen.afterWrite.afterWrite with
      sessions := s.sessions.set n {
        active := true, iface := some iface, link := .connected
        poll := armedTimer s.cfg.pollInterval, reconnect := disarmedTimer }
      outbox := s.outbox ++ .openCall n (some iface) :: .conn n true ::
        pollOutputs t n s.afterOpen.nextWrite s.afterOpen.afterWrite.nextWrite } := by
  let r : Session := { s.session n with active := true, iface := some iface }
  let u := ((s.setSession n r).emit (.openCall n (some iface))).afterOpen
  have hur : u.session n = r := session_setSession_same r hn
  have he := enterConnected_eq (n := n) (s := u) (t := t) (by simpa [u] using hn) (by simpa [u] using hr)
  have : setupSession n iface s = enterConnected n u := by
    simp only [setupSession, hu, State.callOpen, nextOpen_setSession, ho, if_true, Bool.false_eq_true, if_false]
    rfl
  rw [this, he, hur]
  simp [u, r, State.setSession, State.emit, State.afterOpen, State.afterWrite, State.nextWrite]

/-- R180: an open that fails at SETUP. -/
theorem setupSession_fail {n : Nat} {iface : InterfaceId} {s : State} (hn : n < s.nSessions)
    (hu : s.ifaceInUse n iface = false) (ho : s.nextOpen = false) :
    setupSession n iface s = .ok { s.afterOpen with
      sessions := s.sessions.set n { s.session n with
        active := true, iface := some iface, reconnect := armedTimer s.cfg.reconnectInterval }
      outbox := s.outbox ++ [.openCall n (some iface),
        .diag (some n) .openFail (.iface (some iface)), .conn n false] } := by
  have hr := session_setSession_same { s.session n with active := true, iface := some iface } hn
  simp only [setupSession, hu, State.callOpen, nextOpen_setSession, ho, openFailed, Bool.false_eq_true, if_false]
  simp [hr]
  simp [State.setSession, State.emit, State.afterOpen]

end Sys2Proof.Machine
end

