-- ==== Sys2Proof/Laws/Exec.lean ====
section
/-! SUPPORT. Everything one instruction can do, said once: the rows of R195 with those of the other events and of the
refusals (R233). A proof about all instructions is a case analysis on `Ran`. -/

namespace Sys2Proof.Machine

/-- R233: the instruction is refused for `r`. The two last rows are states R20 and R28 rule out. -/
inductive RefusedFor : Instr → State → RefuseReason → Prop where
  | badSession {i n s} (hi : sessionOf i = some n) (hn : s.nSessions ≤ n) : RefusedFor i s .badSession
  | reinit {poly s} (h : s.crcReady = true) : RefusedFor (.crcInit poly) s .crcReinit
  | compute {bytes s} (h : s.readyTable = none) : RefusedFor (.crcCompute bytes) s .crcNotReady
  | parse {buf s} (h : s.readyTable = none) : RefusedFor (.parse buf) s .crcNotReady
  | setupNotReady {n iface s} (h : s.readyTable = none) : RefusedFor (.setup n iface) s .crcNotReady
  | setupActive {n iface s} (h : (s.session n).active = true) : RefusedFor (.setup n iface) s .setupActive
  | buildUnknown {i s} (hi : i = .build .testerId ∨ i = .reqTesterId) (h : s.cfg.testerIdCode = none) :
      RefusedFor i s .testerIdUnknown
  | buildNotReady {i s} (hi : (∃ cmd, i = .build cmd) ∨ i = .reqTotalEnergy ∨ i = .reqCurrentPower ∨ i = .reqTesterId)
      (h : s.readyTable = none) : RefusedFor i s .crcNotReady
  | tick {n s} (hl : s.Live n) (h : s.readyTable = none) : RefusedFor (.tick n) s .crcNotReady
  | received {i n s} (hi : sessionOf i = some n) (hl : s.Live n) (h : s.readyTable = none) :
      RefusedFor i s .crcNotReady

/-- What DATA and the response rows may emit on session `n`: at most one output, none of them a call or CONN. -/
def Received (n : Nat) (new : List Output) : Prop :=
  new = [] ∨ (∃ e chunk, new = [.diag (some n) e (.chunk chunk)]) ∨ (∃ v, new = [.totalEnergy n v]) ∨
    (∃ v, new = [.currentPower n v])

/-- The instruction `i` takes `s` to `t`. -/
inductive Ran : Instr → State → State → Prop where
  | refused {i s r} (h : RefusedFor i s r) : Ran i s (s.refuse r)
  | ignored {i n s} (hi : sessionOf i = some n) (hn : n < s.nSessions) (ha : (s.session n).active = false)
      (hs : ∀ iface, i ≠ .setup n iface) : Ran i s { s with outcome := .done }
  | reset {s} : Ran .reset s { s with
      crcReady := false, crcPoly := none, crcTable := none
      sessions := s.sessions.map fun _ => Session.reset
      refused := false, outcome := .done }
  | crcInit {poly s} (h : s.crcReady = false) : Ran (.crcInit poly) s { s with
      crcTable := some (crcTableOf poly), crcPoly := some poly, crcReady := true, outcome := .done }
  | returned {i o s} (hi : sessionOf i = none) (hr : i ≠ .reset) (hc : ∀ poly, i ≠ .crcInit poly)
      (ho : (∃ v, o = .returnCrc v) ∨ (∃ f, o = .returnFrame f) ∨ (∃ v, o = .returnVerdict v)) :
      Ran i s { s with outbox := s.outbox ++ [o], outcome := .done }
  | received {i n new s} (hi : sessionOf i = some n) (hl : s.Live n) (ht : i ≠ .teardown n) (hk : i ≠ .tick n)
      (hx : i ≠ .closed n ∧ (∀ sig, i ≠ .error n sig) ∧ ∀ iface, i ≠ .setup n iface) (ho : Received n new) :
      Ran i s { s with outbox := s.outbox ++ new, outcome := .done }
  | setupInUse {n iface s} (hn : n < s.nSessions) (ha : (s.session n).active = false)
      (hu : s.ifaceInUse n iface = true) : Ran (.setup n iface) s { s with
      outbox := s.outbox ++ [.setupFail n .configIfaceInUse], outcome := .done }
  | setupOpen {n iface t s} (hn : n < s.nSessions) (ha : (s.session n).active = false)
      (hu : s.ifaceInUse n iface = false) (hr : s.readyTable = some t) (ho : s.nextOpen = true) :
      Ran (.setup n iface) s { s.afterOpen.afterWrite.afterWrite with
        sessions := s.sessions.set n {
          active := true, iface := some iface, link := .connected
          poll := armedTimer s.cfg.pollInterval, reconnect := disarmedTimer }
        outbox := s.outbox ++ .openCall n (some iface) :: .conn n true ::
          pollOutputs t n s.afterOpen.nextWrite s.afterOpen.afterWrite.nextWrite
        outcome := .done }
  | setupFail {n iface t s} (hn : n < s.nSessions) (ha : (s.session n).active = false)
      (hu : s.ifaceInUse n iface = false) (hr : s.readyTable = some t) (ho : s.nextOpen = false) :
      Ran (.setup n iface) s { s.afterOpen with
        sessions := s.sessions.set n { s.session n with
          active := true, iface := some iface, reconnect := armedTimer s.cfg.reconnectInterval }
        outbox := s.outbox ++ [.openCall n (some iface),
          .diag (some n) .openFail (.iface (some iface)), .conn n false]
        outcome := .done }
  | teardown {n s} (hl : s.Live n) : Ran (.teardown n) s { s with
      sessions := s.sessions.set n Session.reset
      outbox := s.outbox ++ (if (s.session n).link = .connected then [.closeCall n] else [])
      outcome := .done }
  | pollCount {n s} (hl : s.Live n) (hp : (s.session n).poll.armed = true)
      (hz : (s.session n).poll.rem - 1 ≠ 0) : Ran (.tick n) s { s with
      sessions := s.sessions.set n { s.session n with
        poll := { (s.session n).poll with rem := (s.session n).poll.rem - 1 } }
      outcome := .done }
  | pollFire {n t s} (hl : s.Live n) (hp : (s.session n).poll.armed = true)
      (hz : (s.session n).poll.rem - 1 = 0) (hr : s.readyTable = some t) :
      Ran (.tick n) s { s.afterWrite.afterWrite with
        sessions := s.sessions.set n { s.session n with
          poll := { (s.session n).poll with rem := s.cfg.pollInterval } }
        outbox := s.outbox ++ pollOutputs t n s.nextWrite s.afterWrite.nextWrite
        outcome := .done }
  | reconnectCount {n s} (hl : s.Live n) (hp : (s.session n).poll.armed = false)
      (hc : (s.session n).reconnect.armed = true) (hz : (s.session n).reconnect.rem - 1 ≠ 0) :
      Ran (.tick n) s { s with
        sessions := s.sessions.set n { s.session n with
          reconnect := { (s.session n).reconnect with rem := (s.session n).reconnect.rem - 1 } }
        outcome := .done }
  | reconnectOpen {n t s} (hl : s.Live n) (hp : (s.session n).poll.armed = false)
      (hc : (s.session n).reconnect.armed = true) (hz : (s.session n).reconnect.rem - 1 = 0)
      (ho : s.nextOpen = true) (hr : s.readyTable = some t) :
      Ran (.tick n) s { s.afterOpen.afterWrite.afterWrite with
        sessions := s.sessions.set n { s.session n with
          link := .connected, poll := armedTimer s.cfg.pollInterval, reconnect := disarmedTimer }
        outbox := s.outbox ++ .openCall n (s.session n).iface :: .conn n true ::
          pollOutputs t n s.afterOpen.nextWrite s.afterOpen.afterWrite.nextWrite
        outcome := .done }
  | reconnectFail {n s} (hl : s.Live n) (hp : (s.session n).poll.armed = false)
      (hc : (s.session n).reconnect.armed = true) (hz : (s.session n).reconnect.rem - 1 = 0)
      (ho : s.nextOpen = false) :
      Ran (.tick n) s { s.afterOpen with
        sessions := s.sessions.set n { s.session n with
          reconnect := armedTimer s.cfg.reconnectInterval }
        outbox := s.outbox ++ [.openCall n (s.session n).iface,
          .diag (some n) .openFail (.iface (s.session n).iface)]
        outcome := .done }
  | noTimer {n s} (hl : s.Live n) (hp : (s.session n).poll.armed = false)
      (hc : (s.session n).reconnect.armed = false) : Ran (.tick n) s { s with outcome := .done }
  | lost {i n e info s} (hi : i = .closed n ∨ ∃ sig, i = .error n sig) (hl : s.Live n)
      (hc : (s.session n).link = .connected) : Ran i s { s with
      sessions := s.sessions.set n { s.session n with
        link := .disconnected, poll := disarmedTimer
        reconnect := armedTimer s.cfg.reconnectInterval }
      outbox := s.outbox ++ [.diag (some n) e info, .conn n false]
      outcome := .done }
  | reported {i n e info s} (hi : i = .closed n ∨ ∃ sig, i = .error n sig) (hl : s.Live n)
      (hc : (s.session n).link = .disconnected) : Ran i s { s with
      outbox := s.outbox ++ [.diag (some n) e info], outcome := .done }

/-- The cases of a session event other than SETUP. -/
theorem onActiveSession_ran {i : Instr} {n : Nat} {s t : State} {act : Except RefuseReason State}
    (hi : sessionOf i = some n) (hs : ∀ iface, i ≠ .setup n iface) (h : onActiveSession n s act = .next t)
    (hok : ∀ u, s.Live n → act = .ok u → Ran i s { u with outcome := .done })
    (herr : ∀ r, s.Live n → act = .error r → RefusedFor i s r) : Ran i s t := by
  by_cases hn : n < s.nSessions
  · cases ha : (s.session n).active with
    | false =>
      rw [onActiveSession_of_inactive _ hn ha] at h
      cases h
      exact .ignored hi hn ha hs
    | true =>
      rw [onActiveSession_of_active _ hn ha] at h
      obtain ⟨u, hu, rfl⟩ | ⟨r, hr, rfl⟩ := finish_cases h
      · exact hok u ⟨hn, ha⟩ hu
      · exact .refused (herr r ⟨hn, ha⟩ hr)
  · rw [onActiveSession_of_ge _ (Nat.not_lt.1 hn)] at h
    cases h
    exact .refused (.badSession hi (Nat.not_lt.1 hn))

theorem withTable_cases {s : State} {k : CrcTable → State} {x : Except RefuseReason State}
    (h : withTable s k = x) :
    (∃ t, s.readyTable = some t ∧ x = .ok (k t)) ∨ (s.readyTable = none ∧ x = .error .crcNotReady) := by
  cases hr : s.readyTable with
  | none => exact .inr ⟨rfl, by rw [← h, withTable_none _ hr]⟩
  | some t => exact .inl ⟨t, rfl, by rw [← h, withTable_some _ hr]⟩

/-- A received buffer's cases. -/
theorem received_ran {i : Instr} {n : Nat} {s t : State} {k : CrcTable → State}
    (hi : sessionOf i = some n) (hs : ∀ iface, i ≠ .setup n iface) (ht : i ≠ .teardown n) (hk : i ≠ .tick n)
    (hc : i ≠ .closed n) (he : ∀ sig, i ≠ .error n sig)
    (hout : ∀ tbl, ∃ new, Received n new ∧ k tbl = { s with outbox := s.outbox ++ new })
    (h : onActiveSession n s (withTable s k) = .next t) : Ran i s t := by
  refine onActiveSession_ran hi hs h (fun u hl hu => ?_) (fun r hl hr => ?_)
  · obtain ⟨tbl, _, he'⟩ | ⟨_, he'⟩ := withTable_cases hu
    · obtain ⟨new, hn, hk'⟩ := hout tbl
      cases he'
      rw [hk']
      exact .received hi hl ht hk ⟨hc, he, hs⟩ hn
    · cases he'
  · obtain ⟨tbl, _, he'⟩ | ⟨hr', he'⟩ := withTable_cases hr
    · cases he'
    · cases he'
      exact .received hi hl hr'

/-- BUILD's cases, for BUILD and the three request rows. -/
theorem build_ran {i : Instr} {cmd : CommandId} {s t : State}
    (hi : i = .build cmd ∨ (i = .reqTotalEnergy ∧ cmd = .totalEnergy) ∨
      (i = .reqCurrentPower ∧ cmd = .currentPower) ∨ (i = .reqTesterId ∧ cmd = .testerId))
    (h : finish s (returnBuild s cmd) = .next t) : Ran i s t := by
  have hsess : sessionOf i = none ∧ i ≠ .reset ∧ ∀ poly, i ≠ .crcInit poly := by
    obtain rfl | ⟨rfl, -⟩ | ⟨rfl, -⟩ | ⟨rfl, -⟩ := hi <;> simp [sessionOf]
  have hrow : (∃ c, i = .build c) ∨ i = .reqTotalEnergy ∨ i = .reqCurrentPower ∨ i = .reqTesterId := by
    obtain rfl | ⟨rfl, -⟩ | ⟨rfl, -⟩ | ⟨rfl, -⟩ := hi <;> simp
  cases hc : codeOf s.cfg.testerIdCode cmd with
  | none =>
    rw [returnBuild_unknown hc] at h
    cases h
    cases cmd with
    | totalEnergy => cases hc
    | currentPower => cases hc
    | testerId => exact .refused (.buildUnknown (by simpa using hi) hc)
  | some code =>
    cases hr : s.readyTable with
    | none =>
      rw [returnBuild_not_ready hc hr] at h
      cases h
      exact .refused (.buildNotReady hrow hr)
    | some tbl =>
      rw [returnBuild_some hc hr] at h
      cases h
      exact .returned hsess.1 hsess.2.1 hsess.2.2 (.inr (.inl ⟨_, rfl⟩))

theorem pollFire_refused {n : Nat} {s : State} {r : RefuseReason} (h : pollFire n s = .error r) :
    s.readyTable = none ∧ r = .crcNotReady := by
  cases hr : s.readyTable with
  | none =>
    rw [pollFire, poll_not_ready n (by simpa using hr)] at h
    exact ⟨rfl, (Except.error.inj h).symm⟩
  | some t => rw [pollFire_eq n hr] at h; cases h

theorem reconnectFire_refused {n : Nat} {s : State} {r : RefuseReason} (hn : n < s.nSessions)
    (h : reconnectFire n s = .error r) : s.readyTable = none ∧ r = .crcNotReady := by
  cases ho : s.nextOpen with
  | false => rw [reconnectFire_fail hn ho] at h; cases h
  | true =>
    cases hr : s.readyTable with
    | none =>
      rw [reconnectFire_not_ready hr ho] at h
      exact ⟨rfl, (Except.error.inj h).symm⟩
    | some t => rw [reconnectFire_open hn hr ho] at h; cases h

theorem tickTimers_refused {n : Nat} {s : State} {r : RefuseReason} (hn : n < s.nSessions)
    (h : tickTimers n s = .error r) : s.readyTable = none ∧ r = .crcNotReady := by
  simp only [tickTimers] at h
  split at h
  · split at h
    · simpa using pollFire_refused h
    · cases h
  · split at h
    · split at h
      · simpa using reconnectFire_refused (by simpa using hn) h
      · cases h
    · cases h

/-- Everything one instruction can do. -/
theorem exec_ran {i : Instr} {s t : State} (h : exec i s = .next t) : Ran i s t := by
  cases i with
  | reqTotalEnergy => exact build_ran (.inr (.inl ⟨rfl, rfl⟩)) h
  | reqCurrentPower => exact build_ran (.inr (.inr (.inl ⟨rfl, rfl⟩))) h
  | reqTesterId => exact build_ran (.inr (.inr (.inr ⟨rfl, rfl⟩))) h
  | build cmd => exact build_ran (.inl rfl) h
  | rspTotalEnergy link v tr =>
    exact received_ran (n := link) rfl (by simp) (by simp) (by simp) (by simp) (by simp)
      (fun _ => ⟨_, .inr (.inr (.inl ⟨_, rfl⟩)), rfl⟩) h
  | rspCurrentPower link v tr =>
    exact received_ran (n := link) rfl (by simp) (by simp) (by simp) (by simp) (by simp)
      (fun _ => ⟨_, .inr (.inr (.inr ⟨_, rfl⟩)), rfl⟩) h
  | rspNoDispatch link p tr =>
    exact received_ran (n := link) rfl (by simp) (by simp) (by simp) (by simp) (by simp)
      (fun _ => ⟨_, .inl rfl, by simp⟩) h
  | rspDecodeLen link c rest tr =>
    exact received_ran (n := link) rfl (by simp) (by simp) (by simp) (by simp) (by simp)
      (fun _ => ⟨_, .inr (.inl ⟨_, _, rfl⟩), rfl⟩) h
  | rspUnknown link code rest tr =>
    exact received_ran (n := link) rfl (by simp) (by simp) (by simp) (by simp) (by simp)
      (fun _ => ⟨_, .inl rfl, by simp⟩) h
  | rspIllegal link g buf =>
    exact received_ran (n := link) rfl (by simp) (by simp) (by simp) (by simp) (by simp)
      (fun _ => ⟨_, .inr (.inl ⟨_, _, rfl⟩), rfl⟩) h
  | data n chunk =>
    refine received_ran (n := n) rfl (by simp) (by simp) (by simp) (by simp) (by simp) (fun tbl => ?_) h
    rw [forwardVerdict_eq]
    refine ⟨_, ?_, rfl⟩
    cases parseFrame tbl chunk <;> simp [Received]
  | reset => cases h; exact .reset
  | crcInit poly =>
    simp only [exec, execCrcInit] at h
    cases hr : s.crcReady with
    | true => rw [hr] at h; cases h; exact .refused (.reinit hr)
    | false => rw [hr] at h; cases h; exact .crcInit hr
  | crcCompute bytes =>
    obtain ⟨u, hu, rfl⟩ | ⟨r, hr, rfl⟩ := finish_cases h
    · obtain ⟨tbl, _, he⟩ | ⟨_, he⟩ := withTable_cases hu
      · cases he
        exact .returned rfl (by simp) (by simp) (.inl ⟨_, rfl⟩)
      · cases he
    · obtain ⟨tbl, _, he⟩ | ⟨hn, he⟩ := withTable_cases hr
      · cases he
      · cases he
        exact .refused (.compute hn)
  | parse buf =>
    obtain ⟨u, hu, rfl⟩ | ⟨r, hr, rfl⟩ := finish_cases h
    · obtain ⟨tbl, _, he⟩ | ⟨_, he⟩ := withTable_cases hu
      · cases he
        exact .returned rfl (by simp) (by simp) (.inr (.inr ⟨_, rfl⟩))
      · cases he
    · obtain ⟨tbl, _, he⟩ | ⟨hn, he⟩ := withTable_cases hr
      · cases he
      · cases he
        exact .refused (.parse hn)
  | setup n iface =>
    simp only [exec, execSetup] at h
    by_cases hn : n < s.nSessions
    swap
    · rw [onSession_of_ge _ (Nat.not_lt.1 hn)] at h
      cases h
      exact .refused (.badSession rfl (Nat.not_lt.1 hn))
    rw [onSession_of_lt _ hn] at h
    cases hr : s.readyTable with
    | none => rw [hr] at h; cases h; exact .refused (.setupNotReady hr)
    | some tbl =>
      rw [hr] at h
      cases ha : (s.session n).active with
      | true => simp only [ha, if_true] at h; cases h; exact .refused (.setupActive ha)
      | false =>
        simp only [ha, Bool.false_eq_true, if_false] at h
        cases hu : s.ifaceInUse n iface with
        | true =>
          simp only [setupSession, hu, if_true] at h
          cases h
          exact .setupInUse hn ha hu
        | false =>
          cases ho : s.nextOpen with
          | true =>
            rw [setupSession_open hn hu hr ho] at h
            cases h
            exact .setupOpen hn ha hu hr ho
          | false =>
            rw [setupSession_fail hn hu ho] at h
            cases h
            exact .setupFail hn ha hu hr ho
  | teardown n =>
    refine onActiveSession_ran rfl (by simp) h (fun u hl hu => ?_) (fun r hl hr => by cases hr)
    have hr := Ran.teardown hl
    by_cases hc : (s.session n).link = .connected
    · simp only [hc, if_true] at hu hr
      cases hu
      exact hr
    · simp only [hc, if_false, List.append_nil] at hu hr
      cases hu
      exact hr
  | tick n =>
    refine onActiveSession_ran rfl (by simp) h (fun u hl hu => ?_) (fun r hl hr => ?_)
    · obtain ⟨hp, hz, rfl⟩ | ⟨hp, hz, t, ht, rfl⟩ | ⟨hp, hc, hz, rfl⟩ | ⟨hp, hc, hz, ho, t, ht, rfl⟩ |
        ⟨hp, hc, hz, ho, rfl⟩ | ⟨hp, hc, rfl⟩ := tickTimers_cases hl.1 hu
      · exact .pollCount hl hp hz
      · exact .pollFire hl hp hz ht
      · exact .reconnectCount hl hp hc hz
      · exact .reconnectOpen hl hp hc hz ho ht
      · exact .reconnectFail hl hp hc hz ho
      · exact .noTimer hl hp hc
    · obtain ⟨hr', rfl⟩ := tickTimers_refused hl.1 hr
      exact .tick hl hr'
  | error n sig =>
    refine onActiveSession_ran rfl (by simp) h (fun u hl hu => ?_) (fun r hl hr => by cases hr)
    cases hu
    rw [transportLost_eq]
    cases hc : (s.session n).link with
    | connected => simpa [hc] using .lost (.inr ⟨sig, rfl⟩) hl hc
    | disconnected => simpa [hc] using .reported (.inr ⟨sig, rfl⟩) hl hc
  | closed n =>
    refine onActiveSession_ran rfl (by simp) h (fun u hl hu => ?_) (fun r hl hr => by cases hr)
    cases hu
    rw [transportLost_eq]
    cases hc : (s.session n).link with
    | connected => simpa [hc] using .lost (.inl rfl) hl hc
    | disconnected => simpa [hc] using .reported (.inl rfl) hl hc

end Sys2Proof.Machine
end

