-- ==== Sys2Proof/Laws/PerInstr.lean ====
section
/-! SUPPORT. Facts about every instruction as syntax, one lemma per constructor: its encoding begins with the bytes its
row of the opcode table fixes, and has the row's length. -/

namespace Sys2Proof.Laws.EncodingShape

open Sys2Proof Sys2Proof.Machine

/-- The bytes of an encoded input, whatever its channel. -/
def bytesOf : Input → List Byte
  | .event record => record
  | .request frame => frame
  | .received _ buf => buf

/-- R71, R73, R84: the leading bytes the row fixes. -/
def fixedBytes : Instr → List Byte
  | .reqTotalEnergy => [0x02#8, 0x05#8, 0x02#8, 0x17#8, 0x05#8]
  | .reqCurrentPower => [0x02#8, 0x05#8, 0x02#8, 0x10#8, 0x09#8]
  | .reqTesterId => [0x02#8, 0x05#8, 0x02#8]
  | .rspTotalEnergy _ _ _ => [0x02#8, 0x06#8, 0x01#8, 0x06#8, 0x17#8, 0x05#8]
  | .rspCurrentPower _ _ _ => [0x02#8, 0x06#8, 0x01#8, 0x04#8, 0x10#8, 0x09#8]
  | .rspNoDispatch _ _ _ => [0x02#8, 0x06#8, 0x01#8]
  | .rspDecodeLen _ _ _ _ => [0x02#8, 0x06#8, 0x01#8]
  | .rspUnknown _ _ _ _ => [0x02#8, 0x06#8, 0x01#8]
  | .rspIllegal _ _ _ => []
  | .reset => [0x00#8]
  | .crcInit _ => [0x01#8]
  | .crcCompute _ => [0x02#8]
  | .build _ => [0x03#8]
  | .parse _ => [0x04#8]
  | .setup _ _ => [0x10#8]
  | .teardown _ => [0x11#8]
  | .tick _ => [0x12#8]
  | .data _ _ => [0x13#8]
  | .error _ _ => [0x14#8]
  | .closed _ => [0x15#8]

/-- How many bytes the encoding has: 8 for a request (R71), L + 7 for a response (R73, R75), the record otherwise. -/
def byteCount : Instr → Nat
  | .reqTotalEnergy => 8
  | .reqCurrentPower => 8
  | .reqTesterId => 8
  | .rspTotalEnergy _ _ _ => 13
  | .rspCurrentPower _ _ _ => 11
  | .rspNoDispatch _ payload _ => payload.length + 7
  | .rspDecodeLen _ _ rest _ => rest.length + 9
  | .rspUnknown _ _ rest _ => rest.length + 9
  | .rspIllegal _ _ buf => buf.length
  | .reset => 1
  | .crcInit _ => 3
  | .crcCompute bytes => bytes.length + 1
  | .build _ => 2
  | .parse buf => buf.length + 1
  | .setup _ iface => iface.length + 5
  | .teardown _ => 5
  | .tick _ => 5
  | .data _ chunk => chunk.length + 5
  | .error _ sig => sig.length + 5
  | .closed _ => 5

/-- The encoding of a well-formed instruction starts with its row's fixed bytes and has its row's length. -/
def Statement (i : Instr) : Prop :=
  ∀ w : WireContext, wellFormed w i = true →
    (bytesOf (encode w i)).take (fixedBytes i).length = fixedBytes i ∧
    (bytesOf (encode w i)).length = byteCount i

theorem reqTotalEnergy : Statement .reqTotalEnergy := fun _ _ => ⟨rfl, rfl⟩

theorem reqCurrentPower : Statement .reqCurrentPower := fun _ _ => ⟨rfl, rfl⟩

theorem reqTesterId : Statement .reqTesterId := by
  intro w h
  cases hc : w.testerIdCode with
  | none => simp [wellFormed, hc] at h
  | some code => simp [encode, bytesOf, hc, requestFrame, requestBody, fixedBytes, byteCount, bytesOfHalf]

theorem rspTotalEnergy (link : Nat) (v : Word) (trailer : Byte) : Statement (.rspTotalEnergy link v trailer) :=
  fun _ _ => ⟨rfl, rfl⟩

theorem rspCurrentPower (link : Nat) (v : Half) (trailer : Byte) : Statement (.rspCurrentPower link v trailer) :=
  fun _ _ => ⟨rfl, rfl⟩

theorem rspNoDispatch (link : Nat) (payload : List Byte) (trailer : Byte) :
    Statement (.rspNoDispatch link payload trailer) := by
  intro w _
  simp [encode, bytesOf, responseFrame_eq, fixedBytes, byteCount]

theorem rspDecodeLen (link : Nat) (c : Registered) (rest : List Byte) (trailer : Byte) :
    Statement (.rspDecodeLen link c rest trailer) := by
  intro w _
  simp [encode, bytesOf, responseFrame_eq, fixedBytes, byteCount, bytesOfHalf]

theorem rspUnknown (link : Nat) (code : Half) (rest : List Byte) (trailer : Byte) :
    Statement (.rspUnknown link code rest trailer) := by
  intro w _
  simp [encode, bytesOf, responseFrame_eq, fixedBytes, byteCount, bytesOfHalf]

theorem rspIllegal (link : Nat) (gate : GateError) (buf : List Byte) : Statement (.rspIllegal link gate buf) :=
  fun _ _ => ⟨rfl, rfl⟩

theorem reset : Statement .reset := fun _ _ => ⟨rfl, rfl⟩

theorem crcInit (poly : Half) : Statement (.crcInit poly) := fun _ _ => ⟨rfl, rfl⟩

theorem crcCompute (bytes : List Byte) : Statement (.crcCompute bytes) := fun _ _ => ⟨rfl, rfl⟩

theorem build (cmd : CommandId) : Statement (.build cmd) := fun _ _ => ⟨rfl, rfl⟩

theorem parse (buf : List Byte) : Statement (.parse buf) := fun _ _ => ⟨rfl, rfl⟩

theorem setup (n : Nat) (iface : InterfaceId) : Statement (.setup n iface) := fun _ _ => ⟨rfl, rfl⟩

theorem teardown (n : Nat) : Statement (.teardown n) := fun _ _ => ⟨rfl, rfl⟩

theorem tick (n : Nat) : Statement (.tick n) := fun _ _ => ⟨rfl, rfl⟩

theorem data (n : Nat) (chunk : List Byte) : Statement (.data n chunk) := fun _ _ => ⟨rfl, rfl⟩

theorem error (n : Nat) (sig : Signal) : Statement (.error n sig) := fun _ _ => ⟨rfl, rfl⟩

theorem closed (n : Nat) : Statement (.closed n) := fun _ _ => ⟨rfl, rfl⟩

end Sys2Proof.Laws.EncodingShape
end

