-- ==== Sys2Proof/Tests/Slice0.lean ====
section
/-! SUPPORT. Tests: the checks of WellFormed, decoding from words written out, single steps with the results that
95_test_vectors.md gives (its row names are in the test names), and a witness for the hypotheses of each obligation. -/

set_option Elab.async false

namespace Sys2Proof.Tests

open Sys2Proof Sys2Proof.Machine

/-! ## Helpers -/

/-- The next state of an outcome. -/
def nextOf : Host.Outcome State Fault Refusal → Option State
  | .next t => some t
  | .fault _ => none
  | .refused _ => none

/-- The table of POLY 0xA001 as 40_crc_engine.md R106 prints it; so no expected value comes from the model's own
generator. -/
def specTable : CrcTable := ⟨printedTable.toArray, by decide +kernel⟩

def wire : WireContext := ⟨specTable, none⟩

/-- With the hypothetical TESTER_ID_CODE of B4. -/
def wireTester : WireContext := ⟨specTable, some 0x0001#16⟩

/-- As after CRC_INIT(0xA001), both sessions reset. -/
def ready : State :=
  { State.reset with crcReady := true, crcPoly := some 0xA001#16, crcTable := some specTable }

def readyTester : State := { ready with cfg := { ready.cfg with testerIdCode := some 0x0001#16 } }

def ifaceA : InterfaceId := [0x41#8]
def ifaceB : InterfaceId := [0x42#8]
def ifaceC : InterfaceId := [0x43#8]

def connectedRecord (rem : Nat) : Session := ⟨true, some ifaceA, .connected, ⟨true, rem⟩, ⟨false, 0⟩⟩
def disconnectedRecord (rem : Nat) : Session := ⟨true, some ifaceA, .disconnected, ⟨false, 0⟩, ⟨true, rem⟩⟩

/-- s0 connected on A with poll = (true, rem); s1 reset. -/
def up (rem : Nat) : State := { ready with sessions := [connectedRecord rem, Session.reset] }

/-- s0 disconnected on A with rc = (true, rem); s1 reset. -/
def down (rem : Nat) : State := { ready with sessions := [disconnectedRecord rem, Session.reset] }

def withAnswers (s : State) (opens : List Bool) (writes : List Int) : State :=
  { s with openAnswers := opens, writeAnswers := writes }

/-- §1.1, §1.2: the two polled requests. -/
def requestTE : List Byte := [0x02#8, 0x05#8, 0x02#8, 0x17#8, 0x05#8, 0x6E#8, 0xFF#8, 0x03#8]
def requestCP : List Byte := [0x02#8, 0x05#8, 0x02#8, 0x10#8, 0x09#8, 0x6C#8, 0xCA#8, 0x03#8]

/-- Vectors of §2.4. -/
def p6 : List Byte := [0x02#8, 0x06#8, 0x01#8, 0x00#8, 0xE1#8, 0x91#8, 0x03#8]
def p9 : List Byte := [0x02#8, 0x06#8, 0x01#8, 0x02#8, 0x17#8, 0x05#8, 0xE7#8, 0xCF#8, 0x03#8]
def p15 : List Byte :=
  [0x02#8, 0x06#8, 0x01#8, 0x06#8, 0x17#8, 0x05#8, 0x00#8, 0x00#8, 0x03#8, 0xE8#8, 0x43#8, 0xF5#8, 0x03#8]
def p18 : List Byte :=
  [0x02#8, 0x06#8, 0x01#8, 0x06#8, 0x17#8, 0x05#8, 0x12#8, 0x34#8, 0x56#8, 0x78#8, 0x38#8, 0x7F#8, 0x03#8]
def p19 : List Byte :=
  [0x02#8, 0x06#8, 0x01#8, 0x04#8, 0x10#8, 0x09#8, 0x01#8, 0xF4#8, 0x42#8, 0xC4#8, 0x03#8]
def p24 : List Byte :=
  [0x02#8, 0x06#8, 0x01#8, 0x06#8, 0x17#8, 0x05#8, 0x00#8, 0x00#8, 0x03#8, 0xE8#8, 0x44#8, 0xF5#8, 0x03#8]
def p25 : List Byte :=
  [0x02#8, 0x06#8, 0x01#8, 0x06#8, 0x17#8, 0x05#8, 0x00#8, 0x00#8, 0x03#8, 0xE8#8, 0x43#8, 0xF4#8, 0x03#8]
def p30 : List Byte :=
  [0x02#8, 0x06#8, 0x01#8, 0x04#8, 0x17#8, 0x05#8, 0x00#8, 0x00#8, 0x83#8, 0xA4#8, 0x03#8]
def p31 : List Byte :=
  [0x02#8, 0x06#8, 0x01#8, 0x06#8, 0x10#8, 0x09#8, 0x00#8, 0x00#8, 0x01#8, 0xF4#8, 0x52#8, 0xEA#8, 0x03#8]
def p32 : List Byte :=
  [0x02#8, 0x06#8, 0x01#8, 0x04#8, 0x12#8, 0x34#8, 0x00#8, 0x01#8, 0x13#8, 0x67#8, 0x03#8]
def p34 : List Byte :=
  [0x02#8, 0x06#8, 0x01#8, 0xFF#8, 0x12#8, 0x34#8] ++ List.replicate 253 0x00#8 ++ [0x08#8, 0x92#8, 0x03#8]

/-! ## WellFormed refuses an ill-formed term, for each check -/

theorem test_illformed_tester_without_code : wellFormed wire .reqTesterId = false := by decide +kernel
theorem test_illformed_tester_registered_code :
    wellFormed ⟨specTable, some 0x1009#16⟩ .reqTesterId = false := by decide +kernel
theorem test_illformed_no_dispatch_long : wellFormed wire (.rspNoDispatch 0 [0#8, 0#8, 0#8] 3#8) = false := by
  decide +kernel
theorem test_illformed_decode_len_expected :
    wellFormed wire (.rspDecodeLen 0 .currentPower [0#8, 0#8] 3#8) = false := by decide +kernel
theorem test_illformed_decode_len_empty : wellFormed wire (.rspDecodeLen 0 .totalEnergy [] 3#8) = false := by
  decide +kernel
theorem test_illformed_decode_len_long :
    wellFormed wire (.rspDecodeLen 0 .totalEnergy (List.replicate 254 0#8) 3#8) = false := by decide +kernel
theorem test_illformed_unknown_registered : wellFormed wire (.rspUnknown 0 0x1705#16 [0#8] 3#8) = false := by
  decide +kernel
theorem test_illformed_unknown_empty : wellFormed wire (.rspUnknown 0 0x1234#16 [] 3#8) = false := by decide +kernel
theorem test_illformed_unknown_long :
    wellFormed wire (.rspUnknown 0 0x1234#16 (List.replicate 254 0#8) 3#8) = false := by decide +kernel
theorem test_illformed_illegal_wrong_gate : wellFormed wire (.rspIllegal 0 .crcHi p24) = false := by decide +kernel
theorem test_illformed_illegal_valid_frame : wellFormed wire (.rspIllegal 0 .crcLo p15) = false := by decide +kernel
theorem test_illformed_index_setup : wellFormed wire (.setup (2 ^ 32) []) = false := by decide +kernel
theorem test_illformed_index_teardown : wellFormed wire (.teardown (2 ^ 32)) = false := by decide +kernel
theorem test_illformed_index_tick : wellFormed wire (.tick (2 ^ 32)) = false := by decide +kernel
theorem test_illformed_index_data : wellFormed wire (.data (2 ^ 32) []) = false := by decide +kernel
theorem test_illformed_index_error : wellFormed wire (.error (2 ^ 32) []) = false := by decide +kernel
theorem test_illformed_index_closed : wellFormed wire (.closed (2 ^ 32)) = false := by decide +kernel

/-! ## Decoding, each constructor from a word written out (frames: §1, §2.3, §2.4; tags: R84) -/

theorem test_decode_B1 : decode wire (.request requestTE) = .ok .reqTotalEnergy := by decide +kernel
theorem test_decode_B2 : decode wire (.request requestCP) = .ok .reqCurrentPower := by decide +kernel
theorem test_decode_B4 : decode wireTester
    (.request [0x02#8, 0x05#8, 0x02#8, 0x00#8, 0x01#8, 0x60#8, 0xCC#8, 0x03#8]) = .ok .reqTesterId := by
  decide +kernel
theorem test_decode_request_bad_crc : decode wire
    (.request [0x02#8, 0x05#8, 0x02#8, 0x17#8, 0x05#8, 0xFF#8, 0x6E#8, 0x03#8]) = .error .notARequest := by
  decide +kernel
theorem test_decode_P18 : decode wire (.received 3 p18) = .ok (.rspTotalEnergy 3 0x12345678#32 0x03#8) := by
  decide +kernel
theorem test_decode_P19 : decode wire (.received 0 p19) = .ok (.rspCurrentPower 0 500#16 0x03#8) := by
  decide +kernel
theorem test_decode_P9 : decode wire (.received 0 p9) = .ok (.rspNoDispatch 0 [0x17#8, 0x05#8] 0x03#8) := by
  decide +kernel
theorem test_decode_P30 : decode wire (.received 0 p30) =
    .ok (.rspDecodeLen 0 .totalEnergy [0x00#8, 0x00#8] 0x03#8) := by decide +kernel
theorem test_decode_P34 : decode wire (.received 0 p34) =
    .ok (.rspUnknown 0 0x1234#16 (List.replicate 253 0x00#8) 0x03#8) := by decide +kernel
theorem test_decode_P25 : decode wire (.received 0 p25) = .ok (.rspIllegal 0 .crcHi p25) := by decide +kernel
theorem test_decode_P14_echoed_request :
    decode wire (.received 0 requestTE) = .ok (.rspIllegal 0 .frameHeader requestTE) := by decide +kernel
theorem test_decode_reset : decode wire (.event [0x00#8]) = .ok .reset := by decide +kernel
theorem test_decode_crcInit : decode wire (.event [0x01#8, 0xA0#8, 0x01#8]) = .ok (.crcInit 0xA001#16) := by
  decide +kernel
theorem test_decode_crcCompute : decode wire (.event [0x02#8, 0x05#8, 0x02#8]) =
    .ok (.crcCompute [0x05#8, 0x02#8]) := by decide +kernel
theorem test_decode_build : decode wire (.event [0x03#8, 0x02#8]) = .ok (.build .testerId) := by decide +kernel
theorem test_decode_build_bad_command : decode wire (.event [0x03#8, 0x03#8]) = .error (.badCommand 0x03#8) := by
  decide +kernel
theorem test_decode_parse : decode wire (.event [0x04#8, 0x02#8]) = .ok (.parse [0x02#8]) := by decide +kernel
theorem test_decode_setup : decode wire (.event [0x10#8, 0x00#8, 0x00#8, 0x01#8, 0x02#8, 0x41#8]) =
    .ok (.setup 258 ifaceA) := by decide +kernel
theorem test_decode_teardown : decode wire (.event [0x11#8, 0x00#8, 0x00#8, 0x00#8, 0x01#8]) =
    .ok (.teardown 1) := by decide +kernel
theorem test_decode_tick : decode wire (.event [0x12#8, 0xFF#8, 0xFF#8, 0xFF#8, 0xFF#8]) =
    .ok (.tick 4294967295) := by decide +kernel
theorem test_decode_data : decode wire (.event ([0x13#8, 0x00#8, 0x00#8, 0x00#8, 0x00#8] ++ p19)) =
    .ok (.data 0 p19) := by decide +kernel
theorem test_decode_error : decode wire (.event [0x14#8, 0x00#8, 0x00#8, 0x00#8, 0x00#8, 0x65#8]) =
    .ok (.error 0 [0x65#8]) := by decide +kernel
theorem test_decode_closed : decode wire (.event [0x15#8, 0x00#8, 0x00#8, 0x00#8, 0x00#8]) =
    .ok (.closed 0) := by decide +kernel
theorem test_decode_reserved_tags :
    ([0x05#8, 0x0F#8, 0x16#8, 0xFF#8] : List Byte).all
      (fun t => decode wire (.event [t]) == .error (.unknownTag t)) = true := by decide +kernel
theorem test_decode_leftover_operands :
    decode wire (.event [0x15#8, 0x00#8, 0x00#8, 0x00#8, 0x00#8, 0x00#8]) = .error (.badOperands 0x15#8) := by
  decide +kernel

/-! ## Single steps, with the results of 95_test_vectors.md -/

theorem test_crcInit_table_entries : (nextOf (exec (.crcInit 0xA001#16) State.reset)).map
    (fun t => (t.crcTable.map fun v => (tableRead v 0x01#8, tableRead v 0x40#8, tableRead v 0xFF#8),
      t.crcReady, t.crcPoly)) =
    some (some (0xC0C1#16, 0xF001#16, 0x4040#16), true, some 0xA001#16) := by decide +kernel

theorem test_crcInit_F4 : (nextOf (exec (.crcInit 0x8408#16) ready)).map
    (fun t => (t.outcome, t.refused, t.crcPoly)) =
    some (.refused .crcReinit, true, some 0xA001#16) := by decide +kernel

theorem test_crcCompute_C12 : (nextOf (exec (.crcCompute
    [0x31#8, 0x32#8, 0x33#8, 0x34#8, 0x35#8, 0x36#8, 0x37#8, 0x38#8, 0x39#8]) ready)).map (·.outbox) =
    some [.returnCrc 0xBB3D#16] := by decide +kernel

theorem test_crcCompute_F1 : (nextOf (exec (.crcCompute [0x05#8]) State.reset)).map
    (fun t => (t.outbox, t.outcome)) = some ([], .refused .crcNotReady) := by decide +kernel

theorem test_build_B4 : (nextOf (exec (.build .testerId) readyTester)).map (·.outbox) =
    some [.returnFrame [0x02#8, 0x05#8, 0x02#8, 0x00#8, 0x01#8, 0x60#8, 0xCC#8, 0x03#8]] := by decide +kernel

theorem test_build_B3 : (nextOf (exec (.build .testerId) ready)).map (·.outcome) =
    some (.refused .testerIdUnknown) := by decide +kernel

theorem test_reqTotalEnergy_B1 : (nextOf (exec .reqTotalEnergy ready)).map (·.outbox) =
    some [.returnFrame requestTE] := by decide +kernel

theorem test_reqCurrentPower_B2 : (nextOf (exec .reqCurrentPower ready)).map (·.outbox) =
    some [.returnFrame requestCP] := by decide +kernel

theorem test_reqTesterId_B3 : (nextOf (exec .reqTesterId ready)).map (fun t => (t.outbox, t.refused)) =
    some ([], true) := by decide +kernel

theorem test_parse_P26_low_byte_first : (nextOf (exec (.parse
    [0x02#8, 0x06#8, 0x01#8, 0x06#8, 0x17#8, 0x05#8, 0x00#8, 0x00#8, 0x03#8, 0xE8#8, 0x44#8, 0x00#8, 0x03#8])
    ready)).map (·.outbox) = some [.returnVerdict (.err .crcLo)] := by decide +kernel

theorem test_parse_P34 : (nextOf (exec (.parse p34) ready)).map (·.outbox) =
    some [.returnVerdict (.ignored 0x1234#16)] := by decide +kernel

theorem test_setup_L1 : (nextOf (exec (.setup 0 ifaceA) (withAnswers ready [true] [8, 8]))).map
    (fun t => (t.outbox, t.session 0, t.session 1)) =
    some ([.openCall 0 (some ifaceA), .conn 0 true, .writeCall 0 requestTE, .writeCall 0 requestCP],
      connectedRecord 5, Session.reset) := by decide +kernel

theorem test_setup_L2 : (nextOf (exec (.setup 0 ifaceA) (withAnswers ready [false] []))).map
    (fun t => (t.outbox, t.session 0)) =
    some ([.openCall 0 (some ifaceA), .diag (some 0) .openFail (.iface (some ifaceA)), .conn 0 false],
      disconnectedRecord 5) := by decide +kernel

theorem test_teardown_L19 : (nextOf (exec (.teardown 0) (up 3))).map (fun t => (t.outbox, t.sessions)) =
    some ([.closeCall 0], [Session.reset, Session.reset]) := by decide +kernel

theorem test_teardown_L20 : (nextOf (exec (.teardown 0) (down 3))).map (fun t => (t.outbox, t.sessions)) =
    some ([], [Session.reset, Session.reset]) := by decide +kernel

theorem test_tick_L8 : (nextOf (exec (.tick 0) (withAnswers (up 1) [] [-1, 8]))).map
    (fun t => (t.outbox, t.session 0)) =
    some ([.writeCall 0 requestTE, .diag (some 0) .writeShort (.bytesWritten (-1)), .writeCall 0 requestCP],
      connectedRecord 5) := by decide +kernel

theorem test_tick_L14 : (nextOf (exec (.tick 0) (withAnswers (down 1) [false] []))).map
    (fun t => (t.outbox, t.session 0)) =
    some ([.openCall 0 (some ifaceA), .diag (some 0) .openFail (.iface (some ifaceA))],
      disconnectedRecord 5) := by decide +kernel

theorem test_data_L15 : (nextOf (exec (.data 0 p19) (down 4))).map (fun t => (t.outbox, t.session 0)) =
    some ([.currentPower 0 500#16], disconnectedRecord 4) := by decide +kernel

theorem test_data_L16 : (nextOf (exec (.data 0 p24) (up 4))).map (fun t => (t.outbox, t.session 0)) =
    some ([.diag (some 0) .crcLo (.chunk p24)], connectedRecord 4) := by decide +kernel

theorem test_error_L9 : (nextOf (exec (.error 0 [0x65#8]) (up 3))).map (fun t => (t.outbox, t.session 0)) =
    some ([.diag (some 0) .transportError (.signal [0x65#8]), .conn 0 false], disconnectedRecord 5) := by
  decide +kernel

theorem test_error_L11 : (nextOf (exec (.error 0 [0x65#8]) (down 3))).map (fun t => (t.outbox, t.session 0)) =
    some ([.diag (some 0) .transportError (.signal [0x65#8])], disconnectedRecord 3) := by decide +kernel

theorem test_closed_L10 : (nextOf (exec (.closed 0) (up 3))).map (fun t => (t.outbox, t.session 0)) =
    some ([.diag (some 0) .transportClosed .noInfo, .conn 0 false], disconnectedRecord 5) := by decide +kernel

theorem test_closed_L21 : (nextOf (exec (.closed 1) (up 3))).map (fun t => (t.outbox, t.sessions)) =
    some ([], (up 3).sessions) := by decide +kernel

theorem test_rspTotalEnergy_P15 : (nextOf (exec (decodeResponse wire.table 0 p15) (up 3))).map (·.outbox) =
    some [.totalEnergy 0 1000#32] := by decide +kernel

theorem test_rspCurrentPower_P19 : (nextOf (exec (.rspCurrentPower 0 500#16 0x03#8) (down 3))).map (·.outbox) =
    some [.currentPower 0 500#16] := by decide +kernel

theorem test_rspNoDispatch_P9 : (nextOf (exec (.rspNoDispatch 0 [0x17#8, 0x05#8] 0x03#8) (up 3))).map (·.outbox) =
    some [] := by decide +kernel

theorem test_rspDecodeLen_P31 : (nextOf (exec (decodeResponse wire.table 0 p31) (up 3))).map (·.outbox) =
    some [.diag (some 0) .decodeLen (.chunk p31)] := by decide +kernel

theorem test_rspUnknown_P32 : (nextOf (exec (decodeResponse wire.table 0 p32) (up 3))).map
    (fun t => (t.outbox, t.outcome)) = some ([], .done) := by decide +kernel

theorem test_rspIllegal_P25 : (nextOf (exec (.rspIllegal 0 .crcHi p25) (up 3))).map (·.outbox) =
    some [.diag (some 0) .crcHi (.chunk p25)] := by decide +kernel

theorem test_reset_F5 : (nextOf (exec .reset { up 3 with refused := true })).map
    (fun t => (t.crcReady, t.crcPoly, t.crcTable, t.sessions, t.refused)) =
    some (false, none, none, [Session.reset, Session.reset], false) := by decide +kernel

theorem test_step_runs_tag : (nextOf (step (State.reset.withFetchWord 8 0x01))).map (·.crcReady) = some true := by
  decide +kernel

theorem test_step_refuses_undecodable : (nextOf (step { State.reset with inbox := [.event [0x05#8]] })).map
    (fun t => (t.refused, t.inbox, t.outcome)) =
    some (true, [], .refused (.undecodable (.unknownTag 0x05#8))) := by decide +kernel

theorem test_table_word_B1 : decodeTableWord 64 0x03FF6E0517020502 = some .reqTotalEnergy := by decide +kernel

theorem test_table_word_tag : (decodeTableWord 8 0x15, decodeTableWord 8 0x07) = (some (.closed 0), none) := by
  decide +kernel

/-! ## Witnesses: for each obligation with hypotheses, states and operands that meet them -/

/-- `ready` with the table the model's CRC_INIT builds, so that the invariants hold. -/
def ready0 : State := { ready with crcTable := some (crcTableOf 0xA001#16) }
def up0 (rem : Nat) : State := { ready0 with sessions := [connectedRecord rem, Session.reset] }
def down0 (rem : Nat) : State := { ready0 with sessions := [disconnectedRecord rem, Session.reset] }

/-- A state whose second session is at its reset values has R29's property. -/
theorem ifaceInv_of_pair {s : State} {r : Session} (h : s.sessions = [r, Session.reset]) : s.IfaceInv := by
  intro m hm n hn hne ha hb
  simp only [State.nSessions, h, List.length_cons, List.length_nil] at hm hn
  obtain rfl | rfl : m = 1 ∨ n = 1 := by omega
  · simp [State.session, h, Session.reset] at ha
  · simp [State.session, h, Session.reset] at hb

theorem ready0_inv : ready0.Inv :=
  ⟨.inr ⟨rfl, by decide, rfl⟩, by decide, ifaceInv_of_pair rfl, fun _ => rfl⟩
theorem up0_inv : (up0 3).Inv := ⟨.inr ⟨rfl, by decide, rfl⟩, by decide, ifaceInv_of_pair rfl, fun _ => rfl⟩
theorem down0_inv : (down0 1).Inv := ⟨.inr ⟨rfl, by decide, rfl⟩, by decide, ifaceInv_of_pair rfl, fun _ => rfl⟩
theorem reset_inv : State.reset.Inv := ⟨.inl ⟨rfl, rfl, rfl⟩, by decide, ifaceInv_of_pair rfl, by decide⟩

theorem up_ready (k : Nat) : (up k).Ready specTable := ⟨rfl, rfl⟩
theorem down_ready (k : Nat) : (down k).Ready specTable := ⟨rfl, rfl⟩
theorem up_live (k : Nat) : (up k).Live 0 := ⟨Nat.zero_lt_succ _, rfl⟩
theorem down_live (k : Nat) : (down k).Live 0 := ⟨Nat.zero_lt_succ _, rfl⟩

theorem witness_CrcInitGivesPrintedTable : State.reset.crcReady = false := rfl
theorem witness_CrcInitBuildsTableOnce : State.reset.crcReady = false ∧ ready.crcReady = true := ⟨rfl, rfl⟩
theorem witness_CrcComputeFoldsTable : ready.Ready specTable ∧ State.reset.crcReady = false := ⟨⟨rfl, rfl⟩, rfl⟩
theorem witness_CrcTableWrittenOnlyByInit :
    (∃ t, exec (.crcInit 0xA001#16) State.reset = .next t) ∧ (∃ t, exec .reset ready = .next t) ∧
    ∃ t, exec (.closed 0) (up 3) = .next t := ⟨⟨_, rfl⟩, ⟨_, rfl⟩, ⟨_, rfl⟩⟩
theorem witness_InitialiseBeforeUse : State.reset.crcReady = false ∧
    (∃ bytes, (Instr.crcCompute [] = .crcCompute bytes)) ∧ (∃ n iface, (Instr.setup 2 ifaceA = .setup n iface)) :=
  ⟨rfl, ⟨_, rfl⟩, ⟨_, _, rfl⟩⟩
theorem witness_BuildMakesRequestFrame :
    (ready.Ready specTable ∧ State.reset.crcReady = false) ∧ ready0.Ready (crcTableOf 0xA001#16) :=
  ⟨⟨⟨rfl, rfl⟩, rfl⟩, ⟨rfl, rfl⟩⟩
theorem witness_BuildTesterIdNeedsItsCode : ready.cfg.testerIdCode = none ∧
    (readyTester.cfg.testerIdCode = some 0x0001#16 ∧ readyTester.Ready specTable) ∧
    { readyTester with crcReady := false }.crcReady = false := ⟨rfl, ⟨rfl, rfl, rfl⟩, rfl⟩
theorem witness_RequestRowsMakeTheirFrames :
    (readyTester.Ready specTable ∧ readyTester.cfg.testerIdCode = some 0x0001#16) ∧
    ({ readyTester with crcReady := false }.crcReady = false ∧ readyTester.cfg.testerIdCode ≠ none) ∧
    ready.cfg.testerIdCode = none := ⟨⟨⟨rfl, rfl⟩, rfl⟩, ⟨rfl, by decide⟩, rfl⟩
theorem witness_BuiltFrameCarriesItsCrc : readyTester.Ready specTable ∧
    codeOf readyTester.cfg.testerIdCode .totalEnergy = some 0x1705#16 ∧
    codeOf readyTester.cfg.testerIdCode .currentPower = some 0x1009#16 ∧
    codeOf readyTester.cfg.testerIdCode .testerId = some 0x0001#16 := ⟨⟨rfl, rfl⟩, rfl, rfl, rfl⟩
theorem witness_ParseClassifiesEveryBuffer : ready.Ready specTable ∧ State.reset.crcReady = false :=
  ⟨⟨rfl, rfl⟩, rfl⟩

/-- R127's frames: L = 0 (P6), where bytes 4 and 5 are the CRC, and L = 6 (P15), at the first and the last position of
each clause. -/
theorem witness_SingleBitFlipsClassified :
    (∀ e, parseFrame (crcTableOf 0xA001#16) p6 = .err e → e = .decodeLen) ∧
    (∀ e, parseFrame (crcTableOf 0xA001#16) p15 = .err e → e = .decodeLen) ∧
    (p6.getD 3 0x00#8).toNat + 6 < p6.length ∧ (p15.getD 3 0x00#8).toNat + 6 < p15.length := by
  refine ⟨fun e h => ?_, fun e h => ?_, by decide, by decide⟩
  · have : parseFrame (crcTableOf 0xA001#16) p6 = .noDispatch := by decide +kernel
    rw [this] at h
    cases h
  · have : parseFrame (crcTableOf 0xA001#16) p15 = .totalEnergy 1000#32 := by decide +kernel
    rw [this] at h
    cases h

theorem witness_RegistryCodesBijective : registryFind 0x1705#16 = some .totalEnergy ∧
    registryFind 0x1009#16 = some .currentPower ∧ readyTester.legalConfig = true ∧
    readyTester.cfg.testerIdCode = some 0x0001#16 := by decide

/-- The two checks of ChecksSession, at the first index out of range and on an inactive session (also for
TickCountsAndFires, TransportLossDisconnects and TeardownReleasesSession). -/
theorem witness_ChecksSession : (up 3).nSessions ≤ 2 ∧ 1 < (up 3).nSessions ∧ ((up 3).session 1).active = false := by
  decide

theorem witness_DataForwardsVerdict : (up 3).Live 0 ∧ (up 3).Ready specTable ∧
    parseFrame specTable p24 = .err .crcLo ∧ parseFrame specTable p15 = .totalEnergy 1000#32 ∧
    parseFrame specTable p19 = .currentPower 500#16 ∧ parseFrame specTable p6 = .noDispatch ∧
    parseFrame specTable p32 = .ignored 0x1234#16 :=
  ⟨up_live 3, up_ready 3, by decide +kernel, by decide +kernel, by decide +kernel, by decide +kernel,
    by decide +kernel⟩

theorem witness_ResponseFramesDeliverTheirValue : (down 3).Live 0 ∧ (down 3).Ready specTable :=
  ⟨down_live 3, down_ready 3⟩

/-- `rest` of 1 and of 253 bytes; both registered codes with a wrong L, and a code that is not registered. -/
theorem witness_WrongLengthAndUnknownCodes : (up 3).Live 0 ∧ (up 3).Ready specTable ∧
    (1 ≤ [0x00#8].length ∧ [0x00#8].length + 2 ≠ 6 ∧ [0x00#8].length + 2 ≠ 4) ∧
    ((List.replicate 253 0x00#8).length ≤ 253) ∧ (0x12#8, 0x34#8) ≠ (0x17#8, 0x05#8) ∧
    (0x12#8, 0x34#8) ≠ (0x10#8, 0x09#8) :=
  ⟨up_live 3, up_ready 3, by decide, by rw [List.length_replicate], by decide, by decide⟩

theorem witness_ShortPayloadIsNotDispatched : (up 3).Live 0 ∧ (up 3).Ready specTable ∧
    ([] : List Byte).length ≤ 2 ∧ [0x17#8, 0x05#8].length ≤ 2 := ⟨up_live 3, up_ready 3, by decide, by decide⟩

theorem witness_ResponseRowsHaveTheirEffect : (up 3).Live 0 ∧ (up 3).Ready specTable := ⟨up_live 3, up_ready 3⟩

theorem witness_SetupOutcomes :
    ready.nSessions ≤ 2 ∧ (1 < State.reset.nSessions ∧ State.reset.crcReady = false) ∧
    (0 < (up 3).nSessions ∧ (up 3).Ready specTable ∧ ((up 3).session 0).active = true) ∧
    (1 < (up 3).nSessions ∧ ((up 3).session 1).active = false ∧
      ∃ m, m ≠ 1 ∧ ((up 3).session m).active = true ∧ ((up 3).session m).iface = some ifaceA) ∧
    ((up 3).session 1 = Session.reset ∧
      (∀ m, m ≠ 1 → ((up 3).session m).active = true → ((up 3).session m).iface ≠ some ifaceB) ∧
      (withAnswers (up 3) [true] []).nextOpen = true ∧ (withAnswers (up 3) [false] []).nextOpen = false) := by
  refine ⟨by decide, by decide, ⟨by decide, up_ready 3, rfl⟩, ⟨by decide, rfl, 0, by decide⟩, rfl, ?_, rfl, rfl⟩
  intro m hm ha
  match m, hm with
  | 0, _ => decide
  | m + 2, _ => simp [State.session, up, Session.reset] at ha

/-- An active session whose timers are both disarmed; R28 rules it out, and TICK's rule gives it nothing to do. -/
def idle : State := { ready with sessions := [⟨true, some ifaceA, .connected, ⟨false, 0⟩, ⟨false, 0⟩⟩, Session.reset] }

theorem witness_TickCountsAndFires :
    (idle.Live 0 ∧ (idle.session 0).poll.armed = false ∧ (idle.session 0).reconnect.armed = false) ∧
    ((up 2).Live 0 ∧ ((up 2).session 0).poll.armed = true ∧ 1 < ((up 2).session 0).poll.rem) ∧
    ((up 1).Live 0 ∧ (up 1).Ready specTable ∧ ((up 1).session 0).poll.rem = 1) ∧
    ((down 2).Live 0 ∧ ((down 2).session 0).poll.armed = false ∧ ((down 2).session 0).reconnect.armed = true ∧
      1 < ((down 2).session 0).reconnect.rem) ∧
    ((down 1).Ready specTable ∧ ((down 1).session 0).reconnect.rem = 1 ∧
      (withAnswers (down 1) [true] []).nextOpen = true ∧ (withAnswers (down 1) [false] []).nextOpen = false) :=
  ⟨by decide, ⟨up_live 2, rfl, by decide⟩, ⟨up_live 1, up_ready 1, rfl⟩, ⟨down_live 2, rfl, rfl, by decide⟩,
    down_ready 1, rfl, rfl, rfl⟩

theorem witness_TransportLossDisconnects : ((up 3).Live 0 ∧ ((up 3).session 0).link = .connected) ∧
    (down 3).Live 0 ∧ ((down 3).session 0).link = .disconnected := ⟨⟨up_live 3, rfl⟩, down_live 3, rfl⟩

theorem witness_TeardownReleasesSession : (up 3).Live 0 ∧ (down 3).Live 0 := ⟨up_live 3, down_live 3⟩

theorem witness_InactiveSessionIgnoresEvents : 1 < (up 3).nSessions ∧ ((up 3).session 1).active = false ∧
    sessionOf (.tick 1) = some 1 ∧ sessionOf (.rspNoDispatch 1 [] 0x03#8) = some 1 ∧
    ∀ iface, Instr.tick 1 ≠ .setup 1 iface := ⟨by decide, rfl, rfl, rfl, by simp⟩

theorem witness_BadSessionIsRefused : (up 3).nSessions ≤ 2 ∧ sessionOf (.tick 2) = some 2 ∧
    sessionOf (.rspIllegal 2 .frameShort []) = some 2 := ⟨by decide, rfl, rfl⟩

/-- With an open that fails. -/
def readyFail : State := withAnswers ready [false] []

theorem witness_SecondSetupOnInterfaceFails : (1 : Nat) ≠ 0 ∧ 1 < readyFail.nSessions ∧ 0 < readyFail.nSessions ∧
    readyFail.Ready specTable ∧ readyFail.session 0 = Session.reset ∧ readyFail.session 1 = Session.reset ∧
    readyFail.ifaceInUse 0 ifaceA = false ∧ ∃ t, exec (.setup 0 ifaceA) readyFail = .next t :=
  ⟨by decide, by decide, by decide, ⟨rfl, rfl⟩, rfl, rfl, by decide, ⟨_, rfl⟩⟩

theorem witness_PollsEveryInterval :
    ((up 1).Live 0 ∧ (up 1).Ready specTable ∧ ((up 1).session 0).poll = ⟨true, 0 + 1⟩) ∧
    ((up 5).Live 0 ∧ (up 5).Ready specTable ∧ 1 ≤ (up 5).cfg.pollInterval ∧
      ((up 5).session 0).poll = ⟨true, (up 5).cfg.pollInterval⟩) :=
  ⟨⟨up_live 1, up_ready 1, rfl⟩, up_live 5, up_ready 5, by decide, rfl⟩

theorem witness_ReconnectAttemptsAreSpaced :
    ((down 1).Live 0 ∧ ((down 1).session 0).poll.armed = false ∧
      ((down 1).session 0).reconnect = ⟨true, 0 + 1⟩) ∧
    ((down 5).Live 0 ∧ ((down 5).session 0).reconnect = ⟨true, 4 + 1⟩ ∧
      (withAnswers (down 5) [false] []).nextOpen = false) ∧
    (withAnswers (down 5) [true] []).Ready specTable ∧ (withAnswers (down 5) [true] []).nextOpen = true :=
  ⟨⟨down_live 1, rfl, rfl⟩, ⟨down_live 5, rfl, rfl⟩, ⟨rfl, rfl⟩, rfl⟩

theorem witness_TornDownSessionNeverFires : (up 1).Live 0 ∧ (down 1).Live 0 := ⟨up_live 1, down_live 1⟩

theorem witness_EveryStepContinues : State.reset.legalConfig = true ∧ (up 3).legalConfig = true := by decide

theorem witness_RefusalsWriteOnlyTheMark :
    (State.reset.Inv ∧ (∃ t, exec (.parse []) State.reset = .next t ∧ t.outcome = .refused .crcNotReady) ∧
      ∃ t, exec .reqTotalEnergy State.reset = .next t ∧ t.outcome = .refused .crcNotReady) ∧
    (ready0.Inv ∧ (∃ t, exec (.crcInit 0#16) ready0 = .next t ∧ t.outcome = .refused .crcReinit) ∧
      (∃ t, exec (.build .testerId) ready0 = .next t ∧ t.outcome = .refused .testerIdUnknown) ∧
      (∃ t, exec .reqTesterId ready0 = .next t ∧ t.outcome = .refused .testerIdUnknown) ∧
      (∃ t, exec (.tick 2) ready0 = .next t ∧ t.outcome = .refused .badSession)) ∧
    ((up0 3).Inv ∧ ∃ t, exec (.setup 0 ifaceB) (up0 3) = .next t ∧ t.outcome = .refused .setupActive) ∧
    ({ ready.cfg with pollInterval := 0 }.pollInterval = 0) :=
  ⟨⟨reset_inv, ⟨_, rfl, rfl⟩, ⟨_, rfl, rfl⟩⟩,
    ⟨ready0_inv, ⟨_, rfl, rfl⟩, ⟨_, rfl, rfl⟩, ⟨_, rfl, rfl⟩, ⟨_, rfl, rfl⟩⟩, ⟨up0_inv, _, rfl, rfl⟩, rfl⟩

theorem witness_RefusedMarkIsSticky : (∃ t, exec .reset ready = .next t) ∧
    (∃ t, exec (.tick 2) ready = .next t ∧ t.outcome = .refused .badSession) ∧
    ∃ t, exec (.tick 0) { ready with refused := true } = .next t ∧ t.outcome = .done :=
  ⟨⟨_, rfl⟩, ⟨_, rfl, rfl⟩, ⟨_, rfl, rfl⟩⟩

theorem witness_OtherSessionsUntouched : (∃ t, exec (.teardown 0) (up 3) = .next t) ∧
    sessionOf (.teardown 0) ≠ some 1 ∧ Instr.teardown 0 ≠ .reset := ⟨⟨_, rfl⟩, by decide, by decide⟩

/-- Two states that differ in session 1 alone. -/
def upOther : State := { up 3 with sessions := [connectedRecord 3, ⟨true, some ifaceB, .disconnected, ⟨false, 0⟩, ⟨true, 2⟩⟩] }

theorem witness_OtherSessionsUnread : sessionOf (.tick 0) = some 0 ∧ (∀ iface, Instr.tick 0 ≠ .setup 0 iface) ∧
    upOther = { up 3 with sessions := upOther.sessions } ∧ upOther.nSessions = (up 3).nSessions ∧
    upOther.session 0 = (up 3).session 0 ∧ (∃ t, exec (.tick 0) (up 3) = .next t) ∧
    ∃ t, exec (.tick 0) upOther = .next t := ⟨rfl, by simp, rfl, rfl, rfl, ⟨_, rfl⟩, ⟨_, rfl⟩⟩

theorem witness_ConfigurationNeverWritten : ∃ t, exec .reset (up 3) = .next t := ⟨_, rfl⟩

theorem witness_OutputsFollowInOrder :
    (∃ t, step { up 3 with inbox := [.event [0x12#8, 0#8, 0#8, 0#8, 0#8]] } = .next t) ∧
    ∃ t, step State.reset = .next t := ⟨⟨_, rfl⟩, ⟨_, rfl⟩⟩

theorem witness_HostCallsOnlyWhereStated :
    (∃ t, exec (.teardown 0) (up 3) = .next t ∧ t.outbox = (up 3).outbox ++ [.closeCall 0]) ∧
    (∃ t, exec (.tick 0) (withAnswers (down 1) [false] []) = .next t ∧ t.outbox = (down 1).outbox ++
      [.openCall 0 (some ifaceA), .diag (some 0) .openFail (.iface (some ifaceA))]) ∧
    (nextOf (exec (.tick 0) (withAnswers (up 1) [] [8, 8]))).map (·.outbox) =
      some ((up 1).outbox ++ [.writeCall 0 requestTE, .writeCall 0 requestCP]) :=
  ⟨⟨_, rfl, rfl⟩, ⟨_, rfl, rfl⟩, by decide +kernel⟩

theorem witness_ConnReportsMatchLevel :
    ((up0 3).Inv ∧ ∃ t, exec (.closed 0) (up0 3) = .next t ∧
      t.outbox = (up0 3).outbox ++ [.diag (some 0) .transportClosed .noInfo, .conn 0 false]) ∧
    ((down0 1).Inv ∧ ∃ t, exec (.closed 0) (down0 1) = .next t ∧
      t.outbox = (down0 1).outbox ++ [.diag (some 0) .transportClosed .noInfo]) :=
  ⟨⟨up0_inv, _, rfl, rfl⟩, ⟨down0_inv, _, rfl, rfl⟩⟩

theorem witness_LinkFollowsTransportAlone :
    (∃ t, exec (.closed 0) (up 3) = .next t ∧ (t.session 0).link ≠ ((up 3).session 0).link) ∧
    ∃ t, exec (.teardown 0) (up 3) = .next t ∧ (t.session 0).link ≠ ((up 3).session 0).link :=
  ⟨⟨_, rfl, by decide⟩, ⟨_, rfl, by decide⟩⟩

theorem witness_StepRunsDecodedInput : State.reset.legalConfig = true ∧
    { State.reset with inbox := [.event [0x00#8]] }.inbox = [.event [0x00#8]] ∧
    decode State.reset.wireContext (.event [0x00#8]) = .ok .reset ∧
    decode State.reset.wireContext (.event []) = .error .emptyRecord ∧ ready.Ready specTable :=
  ⟨by decide, rfl, rfl, rfl, rfl, rfl⟩

theorem witness_StepWaitsForInput : State.reset.legalConfig = true ∧ State.reset.inbox = [] := by decide

theorem witness_StepKeepsInvariant : (up0 3).Inv ∧ (∃ t, step (up0 3) = .next t) ∧
    { up0 3 with inbox := [.event [0x15#8, 0#8, 0#8, 0#8, 0#8]] }.Inv ∧
    ∃ t, step { up0 3 with inbox := [.event [0x15#8, 0#8, 0#8, 0#8, 0#8]] } = .next t :=
  ⟨up0_inv, ⟨_, rfl⟩, ⟨.inr ⟨rfl, by decide, rfl⟩, by decide, ifaceInv_of_pair rfl, fun _ => rfl⟩, ⟨_, rfl⟩⟩

/-- Every constructor has well-formed instructions, at the ends of each range. -/
theorem witness_DecodeEncodeRoundTrip :
    ([.reqTotalEnergy, .reqCurrentPower, .reqTesterId, .rspTotalEnergy 0 0xFFFFFFFF#32 0x00#8,
      .rspCurrentPower 0 0xFFFF#16 0xFF#8, .rspNoDispatch 0 [] 0x03#8, .rspNoDispatch 0 [0x10#8, 0x09#8] 0x03#8,
      .rspDecodeLen 0 .totalEnergy [0x00#8] 0x03#8, .rspDecodeLen 0 .currentPower (List.replicate 253 0x00#8) 0x03#8,
      .rspUnknown 0 0x0001#16 [0x00#8] 0x03#8, .rspUnknown 0 0xFFFF#16 (List.replicate 253 0x00#8) 0x03#8,
      .rspIllegal 0 .frameShort [], .rspIllegal 0 .crcHi p25, .reset, .crcInit 0xFFFF#16, .crcCompute [],
      .build .testerId, .parse [], .setup 4294967295 [], .teardown 0, .tick 4294967295, .data 4294967295 [],
      .error 4294967295 [], .closed 4294967295] : List Instr).all (wellFormed wireTester) = true := by
  decide +kernel

theorem witness_EncodeDecodeRoundTrip :
    decode wire (.event [0x12#8, 0xFF#8, 0xFF#8, 0xFF#8, 0xFF#8]) = .ok (.tick 4294967295) ∧
    decode wire (.request requestTE) = .ok .reqTotalEnergy ∧
    Input.received 0 ([] : List Byte) = .received 0 [] :=
  ⟨by decide +kernel, by decide +kernel, rfl⟩

end Sys2Proof.Tests
end

section
/-! PROOFS. The block's state between two events: who writes the CRC engine's registers (R21) and the refusal mark
(R32). Both are case analyses on `Ran`. -/

namespace Sys2Proof.Machine

/-- R21: RESET and CRC_INIT aside, every row leaves the three CRC registers; CRC_INIT runs only from crc_ready false. -/
theorem Ran.crcRegs_cases {i : Instr} {s t : State} (h : Ran i s t) :
    (t.crcReady = s.crcReady ∧ t.crcPoly = s.crcPoly ∧ t.crcTable = s.crcTable) ∨ i = .reset ∨
    (∃ poly, i = .crcInit poly ∧ s.crcReady = false ∧ t.crcReady = true ∧ t.crcPoly = some poly) := by
  cases h with
  | reset => exact .inr (.inl rfl)
  | crcInit hready => exact .inr (.inr ⟨_, rfl, hready, rfl, rfl⟩)
  | _ => exact .inl ⟨rfl, rfl, rfl⟩

/-- R32, R233: an instruction other than RESET ends refused, or done with the mark as it was. -/
theorem Ran.refused_cases {i : Instr} {s t : State} (h : Ran i s t) (hi : i ≠ .reset) :
    (∃ r, t = s.refuse r) ∨ (t.outcome = .done ∧ t.refused = s.refused) := by
  cases h with
  | refused _ => exact .inl ⟨_, rfl⟩
  | reset => exact absurd rfl hi
  | _ => exact .inr ⟨rfl, rfl⟩

/-- R260: RESET clears the mark, whatever it was. -/
theorem refused_of_exec_reset {s t : State} (h : exec .reset s = .next t) : t.refused = false := by
  cases h
  rfl

/-- Settles O6: the rows of `Ran` that write a CRC register are RESET and CRC_INIT. -/
theorem crcTableWrittenOnlyByInit : Obligations.CrcTableWrittenOnlyByInit :=
  fun _ _ _ h => (exec_ran h).crcRegs_cases

/-- Settles O36: a refusal sets the mark and is the outcome; any other end keeps the mark and has outcome done. -/
theorem refusedMarkIsSticky : Obligations.RefusedMarkIsSticky := by
  refine ⟨rfl, fun i s t h => ⟨fun hi => refused_of_exec_reset (hi ▸ h), fun hi => ?_⟩⟩
  obtain ⟨r, rfl⟩ | ⟨hdone, hkept⟩ := (exec_ran h).refused_cases hi
  · simp
  · simp [hdone, hkept]

end Sys2Proof.Machine
end

section
/-! PROOFS. The CRC engine (R100 to R102): what one table entry is, what CRC_INIT and CRC_COMPUTE do in each value of
crc_ready, and the fold from the zero register. -/

namespace Sys2Proof.Machine

/-! One entry of the table. -/

/-- R100: a register of zeros has no bit to reach the LSB, so every round keeps it. -/
theorem crcRound_zero_register (poly : Half) : crcRound poly 0x0000#16 = 0x0000#16 := by simp [crcRound]

/-- R100: with polynomial 0 the XOR changes nothing, so a round is the bare shift. -/
theorem crcRound_zero_poly (c : Half) : crcRound 0x0000#16 c = c >>> 1 := by simp [crcRound]

theorem iterate_crcRound_zero_poly (k : Nat) (c : Half) : (crcRound 0x0000#16)^[k] c = c >>> k := by
  induction k with
  | zero => simp
  | succ k ih => rw [Function.iterate_succ_apply', ih, crcRound_zero_poly, BitVec.shiftRight_add]

@[simp] theorem crcTableEntry_zero (poly : Half) : crcTableEntry poly 0x00#8 = 0x0000#16 :=
  Function.iterate_fixed (crcRound_zero_register poly) 8

/-- R100: seven shifts bring the single 1 bit of 0x80 to the LSB, and the eighth round XORs the polynomial in. -/
theorem crcTableEntry_top_bit (poly : Half) : crcTableEntry poly 0x80#8 = poly := by
  have shifts : (crcRound poly)^[7] 0x0080#16 = 0x0001#16 := by simp [crcRound]
  have lastRound : crcRound poly 0x0001#16 = poly := by simp [crcRound]
  calc crcTableEntry poly 0x80#8
      = crcRound poly ((crcRound poly)^[7] 0x0080#16) := Function.iterate_succ_apply' _ _ _
    _ = poly := by rw [shifts, lastRound]

/-- R100: eight bare shifts drop all eight bits of the index. -/
theorem crcTableEntry_zero_poly (i : Byte) : crcTableEntry 0x0000#16 i = 0x0000#16 := by
  rw [crcTableEntry, iterate_crcRound_zero_poly]
  bv_omega

/-- R100: the eightfold iterate, as the rule's loop over eight rounds. -/
theorem crcTableEntry_eq_foldl (poly : Half) (i : Byte) :
    crcTableEntry poly i = (List.range 8).foldl (fun c _ => crcRound poly c) (i.setWidth 16) := by
  rw [List.foldl_const, List.length_range, crcTableEntry]

/-- Settles O1: the loop of R100 is the model's iterate; the corner cases follow the bits through its rounds. -/
theorem crcTableEntryIsEightRounds : Obligations.CrcTableEntryIsEightRounds :=
  ⟨crcTableEntry_eq_foldl, fun poly => ⟨crcTableEntry_zero poly, crcTableEntry_top_bit poly⟩,
    crcTableEntry_zero_poly, by decide +kernel⟩

/-! CRC_INIT. -/

theorem exec_crcInit_not_ready (poly : Half) {s : State} (h : s.crcReady = false) :
    exec (.crcInit poly) s = .next { s with
      crcTable := some (crcTableOf poly), crcPoly := some poly, crcReady := true, outcome := .done } := by
  simp [exec, execCrcInit, h]

theorem exec_crcInit_ready (poly : Half) {s : State} (h : s.crcReady = true) :
    exec (.crcInit poly) s = .next (s.refuse .crcReinit) := by simp [exec, execCrcInit, h]

/-- Settles O3: the table CRC_INIT stores is `crcTableOf poly`, read entry by entry; a second CRC_INIT is refused. -/
theorem crcInitBuildsTableOnce : Obligations.CrcInitBuildsTableOnce := fun poly _ =>
  ⟨fun h => ⟨crcTableOf poly, tableRead_crcTableOf poly, exec_crcInit_not_ready poly h⟩, exec_crcInit_ready poly⟩

/-! CRC_COMPUTE. -/

theorem exec_crcCompute_ready (bytes : List Byte) {s : State} {t : CrcTable} (h : s.Ready t) :
    exec (.crcCompute bytes) s = .next { s.emit (.returnCrc (crcOf t bytes)) with outcome := .done } := by
  obtain ⟨hready, htable⟩ := h
  rw [exec, execCrcCompute, withTable_some _ (readyTable_of_ready hready htable), finish_ok]

theorem exec_crcCompute_not_ready (bytes : List Byte) {s : State} (h : s.crcReady = false) :
    exec (.crcCompute bytes) s = .next (s.refuse .crcNotReady) := by
  rw [exec, execCrcCompute, withTable_none _ (readyTable_of_not_ready h), finish_error]

/-- R102: the mask 0x00FF keeps the whole of a byte, so a byte indexes its own entry. -/
theorem lo8_mask_setWidth (b : Byte) : lo8 (b.setWidth 16 &&& 0x00FF#16) = b := by
  have mask (n : Nat) : n &&& 255 = n % 256 := Nat.and_two_pow_sub_one_eq_mod n 8
  apply BitVec.eq_of_toNat_eq
  simp only [toNat_lo8, BitVec.toNat_and, BitVec.toNat_setWidth, BitVec.toNat_ofNat, Nat.reducePow, Nat.reduceMod,
    mask]
  omega

/-- R102: from the zero register one byte gives its table entry. -/
theorem crcStep_zero_register (t : CrcTable) (b : Byte) : crcStep t 0x0000#16 b = tableRead t b := by
  simp [crcStep, lo8_mask_setWidth]

theorem crcOf_singleton (t : CrcTable) (b : Byte) : crcOf t [b] = tableRead t b := crcStep_zero_register t b

/-- R102: a zero byte looks up entry 0, which is 0, so the register never leaves 0. -/
theorem crcOf_replicate_zero (poly : Half) (k : Nat) :
    crcOf (crcTableOf poly) (List.replicate k 0x00#8) = 0x0000#16 := by
  induction k with
  | zero => rfl
  | succ k ih => simp [List.replicate_succ', crcOf_append, ih, crcStep_zero_register]

/-- Settles O4: the rule's fold is `crcOf`, whose corner cases start from the zero register. -/
theorem crcComputeFoldsTable : Obligations.CrcComputeFoldsTable :=
  ⟨fun bytes _ _ => exec_crcCompute_ready bytes, fun bytes _ => exec_crcCompute_not_ready bytes,
    fun poly k b => ⟨crcOf_replicate_zero poly k, crcOf_singleton _ b⟩, by decide +kernel⟩

end Sys2Proof.Machine
end

section
/-! PROOFS. The frame codec: BUILD (R120, R121), PARSE as one chain of tests (R122, R160), and a valid frame too short
to be dispatched (R125). -/

namespace Sys2Proof.Machine

/-! BUILD. -/

theorem exec_build_ready {cmd : CommandId} {code : Half} {s : State} {t : CrcTable}
    (hcode : codeOf s.cfg.testerIdCode cmd = some code) (h : s.Ready t) :
    exec (.build cmd) s = .next { s.emit (.returnFrame (requestFrame t code)) with outcome := .done } := by
  obtain ⟨hready, htable⟩ := h
  rw [exec, execBuild, returnBuild_some hcode (readyTable_of_ready hready htable), finish_ok]

theorem exec_build_not_ready {cmd : CommandId} {code : Half} {s : State}
    (hcode : codeOf s.cfg.testerIdCode cmd = some code) (h : s.crcReady = false) :
    exec (.build cmd) s = .next (s.refuse .crcNotReady) := by
  rw [exec, execBuild, returnBuild_not_ready hcode (readyTable_of_not_ready h), finish_error]

theorem exec_build_unknown {cmd : CommandId} {s : State} (hcode : codeOf s.cfg.testerIdCode cmd = none) :
    exec (.build cmd) s = .next (s.refuse .testerIdUnknown) := by
  rw [exec, execBuild, returnBuild_unknown hcode, finish_error]

/-- Settles O9: CODE(TesterId) is the parameter itself, so these are BUILD's three cases. -/
theorem buildTesterIdNeedsItsCode : Obligations.BuildTesterIdNeedsItsCode := fun _ =>
  ⟨exec_build_unknown (cmd := .testerId), fun _ hcode =>
    ⟨fun _ => exec_build_ready (cmd := .testerId) hcode, exec_build_not_ready (cmd := .testerId) hcode⟩⟩

/-! PARSE and DATA with the table ready. -/

theorem exec_parse_ready (buf : List Byte) {s : State} {t : CrcTable} (h : s.Ready t) :
    exec (.parse buf) s = .next { s.emit (.returnVerdict (parseFrame t buf)) with outcome := .done } := by
  obtain ⟨hready, htable⟩ := h
  rw [exec, execParse, withTable_some _ (readyTable_of_ready hready htable), finish_ok]

theorem exec_parse_not_ready (buf : List Byte) {s : State} (h : s.crcReady = false) :
    exec (.parse buf) s = .next (s.refuse .crcNotReady) := by
  rw [exec, execParse, withTable_none _ (readyTable_of_not_ready h), finish_error]

theorem exec_data_live {n : Nat} (chunk : List Byte) {s : State} {t : CrcTable} (hlive : s.Live n) (h : s.Ready t) :
    exec (.data n chunk) s =
      .next { forwardVerdict n chunk (parseFrame t chunk) s with outcome := .done } := by
  obtain ⟨hindex, hactive⟩ := hlive
  obtain ⟨hready, htable⟩ := h
  rw [exec, execData, onActiveSession_of_active _ hindex hactive,
    withTable_some _ (readyTable_of_ready hready htable), finish_ok]

/-! The verdict. -/

/-- R122: PARSE's tests in their order, the gates' verdicts beside them. -/
theorem parseReading_eq (oob : Byte) (t : CrcTable) (buf : List Byte) : parseReading oob t buf =
    if buf.length < 4 then .err .frameShort
    else if readByte oob buf 0 ≠ 0x02#8 ∨ readByte oob buf 1 ≠ 0x06#8 ∨ readByte oob buf 2 ≠ 0x01#8 then
      .err .frameHeader
    else if buf.length ≠ lenField oob buf + 7 then .err .frameSize
    else if readByte oob buf (lenField oob buf + 4) ≠ lo8 (crcOf t (slice buf 1 (lenField oob buf + 3))) then
      .err .crcLo
    else if readByte oob buf (lenField oob buf + 5) ≠ hi8 (crcOf t (slice buf 1 (lenField oob buf + 3))) then
      .err .crcHi
    else if lenField oob buf ≤ 2 then .noDispatch
    else dispatch oob (codeField oob buf) (lenField oob buf) buf := by
  simp only [parseReading, gateError]
  split_ifs <;> rfl

/-- R160: DISPATCH by the registry's two codes. -/
theorem dispatch_eq (oob : Byte) (code : Half) (len : Nat) (buf : List Byte) : dispatch oob code len buf =
    if code = 0x1705#16 then if len = 6 then .totalEnergy (decodeTotalEnergy oob buf) else .err .decodeLen
    else if code = 0x1009#16 then if len = 4 then .currentPower (decodeCurrentPower oob buf) else .err .decodeLen
    else .ignored code := by
  rw [dispatch, registryFind_eq]
  by_cases htotal : code = 0x1705#16
  · by_cases hlen : len = 6 <;> simp [htotal, hlen, expectedLen]
  · by_cases hpower : code = 0x1009#16
    · by_cases hlen : len = 4 <;> simp [hpower, hlen, expectedLen]
    · simp [htotal, hpower]

theorem take_eq_header_iff {oob : Byte} {buf : List Byte} (h : 4 ≤ buf.length) :
    buf.take 3 = [0x02#8, 0x06#8, 0x01#8] ↔
      readByte oob buf 0 = 0x02#8 ∧ readByte oob buf 1 = 0x06#8 ∧ readByte oob buf 2 = 0x01#8 := by
  match buf, h with
  | b0 :: b1 :: b2 :: rest, _ => simp [readByte]

/-- R78: the code's two bytes, where the buffer has them. -/
theorem codeField_eq_be16_iff {oob : Byte} {buf : List Byte} (hi lo : Byte) (h : 6 ≤ buf.length) :
    codeField oob buf = be16 hi lo ↔ slice buf 4 5 = [hi, lo] := by
  match buf, h with
  | _ :: _ :: _ :: _ :: b4 :: b5 :: rest, _ => simp [codeField, readByte, slice, be16_inj]

/-- Settles O12: test by test, the rows of R81 are PARSE's; what needs the length already tested is that the header is
the first three bytes and the code bytes 4 and 5. -/
theorem parseClassifiesEveryBuffer : Obligations.ParseClassifiesEveryBuffer := by
  refine ⟨fun buf s tbl h => ?_, fun buf s => exec_parse_not_ready buf⟩
  rw [exec_parse_ready buf h, parseFrame, parseReading_eq, dispatch_eq]
  refine congrArg (fun v => Host.Outcome.next { s.emit (.returnVerdict v) with outcome := .done }) ?_
  refine ite_congr rfl (fun _ => rfl) fun hshort => ?_
  have hheader := take_eq_header_iff (oob := 0x00#8) (Nat.not_lt.1 hshort)
  refine ite_congr (by simp only [ne_eq, hheader, not_and_or]) (fun _ => rfl) fun _ => ?_
  refine ite_congr rfl (fun _ => rfl) fun hsize => ?_
  refine ite_congr rfl (fun _ => rfl) fun _ => ite_congr rfl (fun _ => rfl) fun _ => ?_
  have hcode : 6 ≤ buf.length := by omega
  exact ite_congr rfl (fun _ => rfl) fun _ =>
    ite_congr (propext (codeField_eq_be16_iff 0x17#8 0x05#8 hcode)) (fun _ => rfl) fun _ =>
    ite_congr (propext (codeField_eq_be16_iff 0x10#8 0x09#8 hcode)) (fun _ => rfl) fun _ => rfl

/-! A payload too short for a code. -/

/-- R82, R125: the length alone decides; the payload's bytes are not read. -/
theorem parseFrame_responseFrame_short (t : CrcTable) {payload : List Byte} (trailer : Byte)
    (h : payload.length ≤ 2) : parseFrame t (responseFrame t payload trailer) = .noDispatch := by
  have hbyte : payload.length ≤ 255 := by omega
  simp only [parseFrame, parseReading, gateError_responseFrame t payload trailer _ hbyte,
    lenField_responseFrame t payload trailer _ hbyte, if_pos h]

/-- Settles O20: the chunk is the response frame of its payload, and neither PARSE nor DATA dispatches it. -/
theorem shortPayloadIsNotDispatched : Obligations.ShortPayloadIsNotDispatched := by
  intro n payload trailer s tbl span chunk hlive hready hshort hspan hchunk
  have hframe : chunk = responseFrame tbl payload trailer := by rw [hchunk, hspan]; rfl
  have hverdict : parseFrame tbl chunk = .noDispatch :=
    hframe ▸ parseFrame_responseFrame_short tbl trailer hshort
  rw [exec_data_live chunk hlive hready, exec_parse_ready chunk hready, hverdict]
  exact ⟨rfl, rfl⟩

end Sys2Proof.Machine
end

section
/-! PROOFS. The command registry: CODE and its match (R166), what DISPATCH answers for a registered and for any other
code (R160, R163, R164), and the two response decoders (R161, R162). -/

namespace Sys2Proof.Machine

/-! The registry's match. -/

theorem registryFind_eq_some_iff {code : Half} {c : Registered} :
    registryFind code = some c ↔ registeredCode c = code := by
  constructor
  · intro h
    rw [registryFind_eq] at h
    split_ifs at h with htotal hpower
    · cases h; exact htotal.symm
    · cases h; exact hpower.symm
  · rintro rfl
    cases c <;> rfl

theorem registryFind_eq_none_iff {code : Half} :
    registryFind code = none ↔ ∀ c : Registered, registeredCode c ≠ code := by
  simp [Option.eq_none_iff_forall_ne_some, registryFind_eq_some_iff]

/-- R33, R166: the registry has no entry for the TESTER_ID_CODE of a legal configuration. -/
theorem registryFind_testerIdCode {s : State} {code : Half} (hlegal : s.legalConfig = true)
    (hcode : s.cfg.testerIdCode = some code) : registryFind code = none := by
  simp only [State.legalConfig, hcode, Bool.and_eq_true, beq_iff_eq] at hlegal
  exact hlegal.2

/-- Settles O15: a lookup finds exactly the command whose code it is given. -/
theorem registryCodesBijective : Obligations.RegistryCodesBijective :=
  ⟨fun _ => registryFind_eq_some_iff.2 rfl, fun _ _ => registryFind_eq_some_iff.1,
    fun _ hlegal _ hcode => registryFind_eq_none_iff.1 (registryFind_testerIdCode hlegal hcode)⟩

/-- R77: two bytes, high byte first, that are neither registered code. -/
theorem registryFind_be16_eq_none {hi lo : Byte} (htotal : (hi, lo) ≠ (0x17#8, 0x05#8))
    (hpower : (hi, lo) ≠ (0x10#8, 0x09#8)) : registryFind (be16 hi lo) = none := by
  refine registryFind_eq_none_iff.2 fun c hc => ?_
  cases c with
  | totalEnergy =>
    obtain ⟨rfl, rfl⟩ := be16_inj.1 (show be16 0x17#8 0x05#8 = be16 hi lo from hc)
    exact htotal rfl
  | currentPower =>
    obtain ⟨rfl, rfl⟩ := be16_inj.1 (show be16 0x10#8 0x09#8 = be16 hi lo from hc)
    exact hpower rfl

/-! DISPATCH, by what the registry finds. -/

/-- R164. -/
theorem dispatch_unknown {oob : Byte} {code : Half} {len : Nat} {buf : List Byte} (h : registryFind code = none) :
    dispatch oob code len buf = .ignored code := by simp only [dispatch, h]

/-- R163. -/
theorem dispatch_wrong_len {oob : Byte} {code : Half} {len : Nat} {buf : List Byte} {c : Registered}
    (h : registryFind code = some c) (hlen : len ≠ expectedLen c) : dispatch oob code len buf = .err .decodeLen := by
  simp only [dispatch, h, if_pos hlen]

/-! PARSE on the response frame of a payload that holds a code. -/

@[simp] theorem length_bytesOfHalf (v : Half) : (bytesOfHalf v).length = 2 := rfl
@[simp] theorem length_bytesOfWord (v : Word) : (bytesOfWord v).length = 4 := rfl

section Response
variable (t : CrcTable) (trailer oob : Byte)

theorem codeField_responseFrame (hi lo : Byte) (rest : List Byte) :
    codeField oob (responseFrame t (hi :: lo :: rest) trailer) = be16 hi lo := rfl

/-- R122: such a frame passes the gates, and DISPATCH decides on its code and length. -/
theorem parseFrame_responseFrame_code (hi lo : Byte) {rest : List Byte} (hpos : 1 ≤ rest.length)
    (hbyte : rest.length ≤ 253) :
    parseFrame t (responseFrame t (hi :: lo :: rest) trailer) =
      dispatch 0x00#8 (be16 hi lo) (rest.length + 2) (responseFrame t (hi :: lo :: rest) trailer) := by
  have hlen : (hi :: lo :: rest).length ≤ 255 := by simp only [List.length_cons]; omega
  have hlong : ¬ (hi :: lo :: rest).length ≤ 2 := by simp only [List.length_cons]; omega
  simp only [parseFrame, parseReading, gateError_responseFrame t _ trailer _ hlen,
    lenField_responseFrame t _ trailer _ hlen, codeField_responseFrame]
  exact if_neg hlong

/-- R161: the value is the four bytes after the code. -/
theorem parseFrame_responseFrame_totalEnergy (v : Word) :
    parseFrame t (responseFrame t (0x17#8 :: 0x05#8 :: bytesOfWord v) trailer) = .totalEnergy v := by
  have hvalue : decodeTotalEnergy 0x00#8 (responseFrame t (0x17#8 :: 0x05#8 :: bytesOfWord v) trailer) = v :=
    be32_bytes v
  rw [parseFrame_responseFrame_code t trailer _ _ (by simp) (by simp), length_bytesOfWord, dispatch_eq,
    if_pos (by decide), if_pos rfl, hvalue]

/-- R162: the value is the two bytes after the code. -/
theorem parseFrame_responseFrame_currentPower (v : Half) :
    parseFrame t (responseFrame t (0x10#8 :: 0x09#8 :: bytesOfHalf v) trailer) = .currentPower v := by
  have hvalue : decodeCurrentPower 0x00#8 (responseFrame t (0x10#8 :: 0x09#8 :: bytesOfHalf v) trailer) = v :=
    be16_hi_lo v
  rw [parseFrame_responseFrame_code t trailer _ _ (by simp) (by simp), length_bytesOfHalf, dispatch_eq,
    if_neg (by decide), if_pos (by decide), if_pos rfl, hvalue]

end Response

/-! DATA on a live session with the table ready. -/

theorem exec_data_of_verdict {n : Nat} {chunk : List Byte} {v : Verdict} {s : State} {t : CrcTable}
    (hlive : s.Live n) (hready : s.Ready t) (hverdict : parseFrame t chunk = v) :
    exec (.data n chunk) s = .next { forwardVerdict n chunk v s with outcome := .done } :=
  hverdict ▸ exec_data_live chunk hlive hready

/-- Settles O18: each chunk is the response frame of its code and value, and DATA emits what PARSE decodes. -/
theorem responseFramesDeliverTheirValue : Obligations.ResponseFramesDeliverTheirValue := by
  intro n trailer s tbl hlive hready
  constructor
  · rintro v _ rfl
    exact exec_data_of_verdict hlive hready (parseFrame_responseFrame_totalEnergy tbl trailer v)
  · rintro v _ rfl
    exact exec_data_of_verdict hlive hready (parseFrame_responseFrame_currentPower tbl trailer v)

/-- Settles O19: the chunk is the response frame of its code and rest, so its verdict is DISPATCH's, by whether the
registry finds the code. -/
theorem wrongLengthAndUnknownCodes : Obligations.WrongLengthAndUnknownCodes := by
  intro n hi lo rest trailer s tbl span chunk hlive hready hpos hbyte hspan hchunk
  have hframe : chunk = responseFrame tbl (hi :: lo :: rest) trailer := by rw [hchunk, hspan]; rfl
  have hverdict : parseFrame tbl chunk = dispatch 0x00#8 (be16 hi lo) (rest.length + 2) chunk :=
    hframe ▸ parseFrame_responseFrame_code tbl trailer hi lo hpos hbyte
  rw [exec_data_of_verdict hlive hready hverdict, exec_parse_ready chunk hready, hverdict]
  refine ⟨fun hwrong => ?_, fun htotal hpower => ?_⟩
  · have hfound : ∃ c, registryFind (be16 hi lo) = some c ∧ rest.length + 2 ≠ expectedLen c := by
      obtain ⟨hcode, hlen⟩ | ⟨hcode, hlen⟩ := hwrong
      · cases hcode; exact ⟨.totalEnergy, rfl, hlen⟩
      · cases hcode; exact ⟨.currentPower, rfl, hlen⟩
    obtain ⟨c, hcode, hlen⟩ := hfound
    rw [dispatch_wrong_len hcode hlen]
    exact ⟨rfl, rfl⟩
  · rw [dispatch_unknown (registryFind_be16_eq_none htotal hpower)]
    exact ⟨rfl, rfl⟩

end Sys2Proof.Machine
end

section
/-! PROOFS. The link session's events on the state of one session: CHECK (R180) and what an inactive session ignores
(R191, R192), DATA (R190), TEARDOWN (R191), ERROR and CLOSED (R188, R189), TICK (R185 to R187) and SETUP (R180). -/

namespace Sys2Proof.Machine

/-! CHECK and the inactive session. -/

/-- R31: but for SETUP, whatever is addressed to session `n` runs behind CHECK and the test of `active`. -/
theorem exec_eq_onActiveSession {n : Nat} {i : Instr} (s : State) (haddr : sessionOf i = some n)
    (hsetup : ∀ iface, i ≠ .setup n iface) : ∃ act, exec i s = onActiveSession n s act := by
  cases i with
  | setup _ iface =>
    cases haddr
    exact absurd rfl (hsetup iface)
  | reqTotalEnergy | reqCurrentPower | reqTesterId | reset | crcInit | crcCompute | build | parse => cases haddr
  | rspTotalEnergy | rspCurrentPower | rspNoDispatch | rspDecodeLen | rspUnknown | rspIllegal | teardown | tick
  | data | error | closed =>
    cases haddr
    exact ⟨_, rfl⟩

theorem checksSession_of_sessionOf {n : Nat} {i : Instr} (s : State) (haddr : sessionOf i = some n)
    (hsetup : ∀ iface, i ≠ .setup n iface) : ChecksSession n i s := by
  obtain ⟨act, hexec⟩ := exec_eq_onActiveSession s haddr hsetup
  rw [ChecksSession, hexec]
  exact ⟨onActiveSession_of_ge act, onActiveSession_of_inactive act⟩

/-- Settles O27: it is the second of the two checks. -/
theorem inactiveSessionIgnoresEvents : Obligations.InactiveSessionIgnoresEvents :=
  fun _ _ s hindex hinactive haddr hsetup => (checksSession_of_sessionOf s haddr hsetup).2 hindex hinactive

/-! DATA. -/

/-- Settles O17: the outputs are those of `forwardVerdict_eq`, one row per verdict. -/
theorem dataForwardsVerdict : Obligations.DataForwardsVerdict := by
  refine fun n chunk s => ⟨checksSession_of_sessionOf s rfl (by simp), fun tbl hlive hready =>
    ⟨_, by rw [exec_data_live chunk hlive hready, forwardVerdict_eq], ?_⟩⟩
  exact ⟨fun _ hverdict => by rw [hverdict], fun _ hverdict => by rw [hverdict], fun _ hverdict => by rw [hverdict],
    fun hverdict => by rw [hverdict], fun _ hverdict => by rw [hverdict]⟩

/-! TEARDOWN. -/

theorem exec_teardown_live {n : Nat} {s : State} (hlive : s.Live n) :
    exec (.teardown n) s = .next { s with
      sessions := s.sessions.set n Session.reset
      outbox := s.outbox ++ (if (s.session n).link = .connected then [.closeCall n] else [])
      outcome := .done } := by
  obtain ⟨hindex, hactive⟩ := hlive
  rw [exec, execTeardown, onActiveSession_of_active _ hindex hactive, finish_ok]
  split
  · rfl
  · rw [List.append_nil]; rfl

/-- Settles O26: the record TEARDOWN writes is the reset record. -/
theorem teardownReleasesSession : Obligations.TeardownReleasesSession :=
  fun _ s => ⟨checksSession_of_sessionOf s rfl (by simp), exec_teardown_live⟩

/-! ERROR and CLOSED. -/

theorem transportLost_connected {n : Nat} {s : State} (e : ErrorCode) (info : DiagInfo)
    (hlink : (s.session n).link = .connected) :
    transportLost n e info s = { s with
      sessions := s.sessions.set n { s.session n with
        link := .disconnected, poll := disarmedTimer, reconnect := armedTimer s.cfg.reconnectInterval }
      outbox := s.outbox ++ [.diag (some n) e info, .conn n false] } := by
  rw [transportLost_eq, if_pos hlink]

theorem transportLost_disconnected {n : Nat} {s : State} (e : ErrorCode) (info : DiagInfo)
    (hlink : (s.session n).link = .disconnected) : transportLost n e info s = s.emit (.diag (some n) e info) := by
  rw [transportLost_eq, if_neg (by simp [hlink])]
  rfl

theorem exec_error_live {n : Nat} (sig : Signal) {s : State} (hlive : s.Live n) :
    exec (.error n sig) s = .next { transportLost n .transportError (.signal sig) s with outcome := .done } :=
  onActiveSession_of_active _ hlive.1 hlive.2

theorem exec_closed_live {n : Nat} {s : State} (hlive : s.Live n) :
    exec (.closed n) s = .next { transportLost n .transportClosed .noInfo s with outcome := .done } :=
  onActiveSession_of_active _ hlive.1 hlive.2

/-- Settles O25: both events are `transportLost`, with their own diagnostic. -/
theorem transportLossDisconnects : Obligations.TransportLossDisconnects := by
  refine fun n sig s => ⟨checksSession_of_sessionOf s rfl (by simp), checksSession_of_sessionOf s rfl (by simp), ?_⟩
  rintro _ hlive rfl
  rw [exec_error_live sig hlive, exec_closed_live hlive]
  constructor
  · intro hlink
    rw [transportLost_connected _ _ hlink, transportLost_connected _ _ hlink]
    exact ⟨rfl, rfl⟩
  · intro hlink
    rw [transportLost_disconnected _ _ hlink, transportLost_disconnected _ _ hlink]
    exact ⟨rfl, rfl⟩

/-! TICK: the rows of `tickTimers_cases`, each from its conditions. -/

theorem exec_tick_live {n : Nat} {s : State} (hlive : s.Live n) :
    exec (.tick n) s = finish s (tickTimers n s) :=
  onActiveSession_of_active _ hlive.1 hlive.2

theorem tickTimers_idle {n : Nat} {s : State} (hpoll : (s.session n).poll.armed = false)
    (hrec : (s.session n).reconnect.armed = false) : tickTimers n s = .ok s := by
  simp [tickTimers, hpoll, hrec]

theorem tickTimers_poll_count {n : Nat} {s : State} (hpoll : (s.session n).poll.armed = true)
    (hrem : 1 < (s.session n).poll.rem) :
    tickTimers n s = .ok (s.setSession n { s.session n with poll := ⟨true, (s.session n).poll.rem - 1⟩ }) := by
  have hleft : (s.session n).poll.rem - 1 ≠ 0 := by omega
  simp [tickTimers, hpoll, hleft]

theorem tickTimers_poll_fire {n : Nat} {s : State} {t : CrcTable} (hindex : n < s.nSessions)
    (htable : s.readyTable = some t) (hpoll : (s.session n).poll.armed = true)
    (hrem : (s.session n).poll.rem = 1) :
    tickTimers n s = .ok { s.afterWrite.afterWrite with
      sessions := s.sessions.set n { s.session n with poll := ⟨true, s.cfg.pollInterval⟩ }
      outbox := s.outbox ++ pollOutputs t n s.nextWrite s.afterWrite.nextWrite } := by
  simp only [tickTimers, hpoll, hrem, if_true, Nat.sub_self]
  rw [pollFire_eq n (t := t) (by simpa using htable), session_setSession_same _ hindex]
  simp [State.setSession, State.afterWrite, State.nextWrite]

theorem tickTimers_reconnect_count {n : Nat} {s : State} (hpoll : (s.session n).poll.armed = false)
    (hrec : (s.session n).reconnect.armed = true) (hrem : 1 < (s.session n).reconnect.rem) :
    tickTimers n s = .ok (s.setSession n
      { s.session n with reconnect := ⟨true, (s.session n).reconnect.rem - 1⟩ }) := by
  have hleft : (s.session n).reconnect.rem - 1 ≠ 0 := by omega
  simp [tickTimers, hpoll, hrec, hleft]

/-- The attempt overwrites the count, so the tick that brings it to 0 is the attempt itself. -/
theorem tickTimers_reconnect_fire {n : Nat} {s : State} (hindex : n < s.nSessions)
    (hpoll : (s.session n).poll.armed = false) (hrec : (s.session n).reconnect.armed = true)
    (hrem : (s.session n).reconnect.rem = 1) : tickTimers n s = reconnectFire n s := by
  simp only [tickTimers, hpoll, hrec, hrem, if_true, Bool.false_eq_true, if_false, Nat.sub_self]
  simp only [reconnectFire, session_setSession_same _ hindex, setSession_setSession]

/-- Settles O24: on a live session TICK is `tickTimers`, one lemma per timer and count. -/
theorem tickCountsAndFires : Obligations.TickCountsAndFires := by
  refine fun n s => ⟨checksSession_of_sessionOf s rfl (by simp), ?_⟩
  rintro _ hlive rfl
  have hindex := hlive.1
  rw [exec_tick_live hlive]
  refine ⟨?idle, ?pollCount, ?pollFire, ?reconnectCount, ?reconnectOpen, ?reconnectFail⟩
  case idle =>
    intro hpoll hrec
    rw [tickTimers_idle hpoll hrec, finish_ok]
  case pollCount =>
    intro hpoll hrem
    rw [tickTimers_poll_count hpoll hrem]
    rfl
  case pollFire =>
    intro tbl hready hpoll hrem
    rw [tickTimers_poll_fire hindex (readyTable_eq_some.2 hready) hpoll hrem, finish_ok]
  case reconnectCount =>
    intro hpoll hrec hrem
    rw [tickTimers_reconnect_count hpoll hrec hrem]
    rfl
  case reconnectOpen =>
    intro tbl hready hpoll hrec hrem hopen
    rw [tickTimers_reconnect_fire hindex hpoll hrec hrem,
      reconnectFire_open hindex (readyTable_eq_some.2 hready) hopen, finish_ok, List.append_assoc]
    rfl
  case reconnectFail =>
    intro hpoll hrec hrem hopen
    rw [tickTimers_reconnect_fire hindex hpoll hrec hrem, reconnectFire_fail hindex hopen]
    rfl

/-! SETUP. -/

/-- R180: only an existing record can be active, so the search may range over all indices. -/
theorem ifaceInUse_iff {s : State} {n : Nat} {iface : InterfaceId} : s.ifaceInUse n iface = true ↔
    ∃ m, m ≠ n ∧ (s.session m).active = true ∧ (s.session m).iface = some iface := by
  have hlt : ∀ m, (s.session m).active = true → m < s.nSessions := fun m hactive => by
    by_contra hge
    rw [session_of_ge (Nat.not_lt.1 hge)] at hactive
    cases hactive
  simp only [State.ifaceInUse, List.any_eq_true, List.mem_range, Bool.and_eq_true, bne_iff_ne, beq_iff_eq, and_assoc]
  exact ⟨fun ⟨m, _, h⟩ => ⟨m, h⟩, fun ⟨m, hne, hactive, h⟩ => ⟨m, hlt m hactive, hne, hactive, h⟩⟩

theorem exec_setup_badSession {n : Nat} (iface : InterfaceId) {s : State} (hindex : s.nSessions ≤ n) :
    exec (.setup n iface) s = .next (s.refuse .badSession) :=
  onSession_of_ge _ hindex

theorem exec_setup_not_ready {n : Nat} (iface : InterfaceId) {s : State} (hindex : n < s.nSessions)
    (h : s.crcReady = false) : exec (.setup n iface) s = .next (s.refuse .crcNotReady) := by
  rw [exec, execSetup, onSession_of_lt _ hindex, readyTable_of_not_ready h, finish_error]

theorem exec_setup_active {n : Nat} (iface : InterfaceId) {s : State} {t : CrcTable} (hlive : s.Live n)
    (h : s.Ready t) : exec (.setup n iface) s = .next (s.refuse .setupActive) := by
  obtain ⟨hindex, hactive⟩ := hlive
  rw [exec, execSetup, onSession_of_lt _ hindex, readyTable_eq_some.2 h, if_pos hactive, finish_error]

theorem exec_setup_inactive {n : Nat} (iface : InterfaceId) {s : State} {t : CrcTable} (hindex : n < s.nSessions)
    (h : s.Ready t) (hinactive : (s.session n).active = false) :
    exec (.setup n iface) s = finish s (setupSession n iface s) := by
  rw [exec, execSetup, onSession_of_lt _ hindex, readyTable_eq_some.2 h, if_neg (by simp [hinactive])]

theorem setupSession_inUse {n : Nat} {iface : InterfaceId} {s : State} (hused : s.ifaceInUse n iface = true) :
    setupSession n iface s = .ok (s.emit (.setupFail n .configIfaceInUse)) := by
  rw [setupSession, if_pos hused]

/-- Settles O23: the checks in their order, then `setupSession` by the interface and the result of `open`. -/
theorem setupOutcomes : Obligations.SetupOutcomes := by
  refine fun n iface s => ⟨exec_setup_badSession iface, exec_setup_not_ready iface, fun tbl hindex hready =>
    ⟨fun hactive => exec_setup_active iface ⟨hindex, hactive⟩ hready, ?inUse, ?free⟩⟩
  case inUse =>
    intro hinactive hused
    rw [exec_setup_inactive iface hindex hready hinactive, setupSession_inUse (ifaceInUse_iff.2 hused)]
    rfl
  case free =>
    intro hreset hfree
    have hunused : s.ifaceInUse n iface = false := by
      rw [← Bool.not_eq_true, ifaceInUse_iff]
      exact fun ⟨m, hne, hactive, hsame⟩ => hfree m hne hactive hsame
    rw [exec_setup_inactive iface hindex hready (by rw [hreset]; rfl)]
    constructor
    · intro hopen
      rw [setupSession_open hindex hunused (readyTable_eq_some.2 hready) hopen, finish_ok,
        List.append_assoc]
      rfl
    · intro hopen
      rw [setupSession_fail hindex hunused hopen, hreset]
      rfl

end Sys2Proof.Machine
end

section
/-! PROOFS. Initialise before use (R263) and the session torn down (R269): the operations that need the CRC table before
CRC_INIT, and TICKs of an inactive session as steps of a run. -/

namespace Sys2Proof.Machine

/-! Before CRC_INIT. -/

/-- R77, R121: only TesterId's code is a parameter that may be left out. -/
theorem eq_testerId_of_codeOf_eq_none {testerIdCode : Option Half} {cmd : CommandId}
    (h : codeOf testerIdCode cmd = none) : cmd = .testerId := by
  cases cmd with
  | totalEnergy | currentPower => cases h
  | testerId => rfl

/-- R121: BUILD asks for the code before the table, so before CRC_INIT either of the two refuses it. -/
theorem exec_build_not_ready_cases (cmd : CommandId) {s : State} (h : s.crcReady = false) :
    exec (.build cmd) s = .next (s.refuse .crcNotReady) ∨
    (cmd = .testerId ∧ exec (.build cmd) s = .next (s.refuse .testerIdUnknown)) := by
  cases hcode : codeOf s.cfg.testerIdCode cmd with
  | none => exact .inr ⟨eq_testerId_of_codeOf_eq_none hcode, exec_build_unknown hcode⟩
  | some code => exact .inl (exec_build_not_ready hcode h)

/-- Settles O7: each of the four rows by the check that refuses it first. -/
theorem initialiseBeforeUse : Obligations.InitialiseBeforeUse := by
  rintro _ s hnot (⟨bytes, rfl⟩ | ⟨cmd, rfl⟩ | ⟨buf, rfl⟩ | ⟨n, iface, rfl⟩)
  · exact ⟨_, exec_crcCompute_not_ready bytes hnot, .inl rfl⟩
  · obtain hexec | ⟨rfl, hexec⟩ := exec_build_not_ready_cases cmd hnot
    · exact ⟨_, hexec, .inl rfl⟩
    · exact ⟨_, hexec, .inr (.inl ⟨rfl, rfl⟩)⟩
  · exact ⟨_, exec_parse_not_ready buf hnot, .inl rfl⟩
  · obtain hlt | hge := Nat.lt_or_ge n s.nSessions
    · exact ⟨_, exec_setup_not_ready iface hlt hnot, .inl rfl⟩
    · exact ⟨_, exec_setup_badSession iface hge, .inr (.inr ⟨rfl, n, iface, rfl, hge⟩)⟩

/-! A run, step by step. -/

@[simp] theorem runInstrs_nil (s : State) : runInstrs [] s = .next s := rfl

theorem runInstrs_cons {i : Instr} {s t : State} (rest : List Instr) (h : exec i s = .next t) :
    runInstrs (i :: rest) s = runInstrs rest t := by simp only [runInstrs, h]

/-- An instruction that leaves a state as it is may be run on it any number of times. -/
theorem runInstrs_replicate_of_fixed {i : Instr} {s : State} (k : Nat) (h : exec i s = .next s) :
    runInstrs (List.replicate k i) s = .next s := by
  induction k with
  | zero => exact runInstrs_nil s
  | succ k ih => rw [List.replicate_succ, runInstrs_cons _ h, ih]

/-! TICKs after TEARDOWN. -/

/-- R192: once the outcome of the last step is done, a TICK of an inactive session writes nothing at all. -/
theorem exec_tick_inactive_of_done {n : Nat} {s : State} (hindex : n < s.nSessions)
    (hinactive : (s.session n).active = false) (hdone : s.outcome = .done) : exec (.tick n) s = .next s := by
  rw [inactiveSessionIgnoresEvents n _ s hindex hinactive rfl (by simp), ← hdone]

/-- Settles O32: TEARDOWN leaves the reset record, which is inactive, and TICK fixes the state it leaves. -/
theorem tornDownSessionNeverFires : Obligations.TornDownSessionNeverFires := by
  intro n k s hlive
  obtain ⟨hindex, hactive⟩ := hlive
  have hrecord : (s.setSession n Session.reset).session n = Session.reset := session_setSession_same _ hindex
  have hkept : n < (s.setSession n Session.reset).nSessions := by rwa [nSessions_setSession]
  have hteardown := exec_teardown_live ⟨hindex, hactive⟩
  refine ⟨_, (runInstrs_cons _ hteardown).trans (runInstrs_replicate_of_fixed k ?_), rfl, hrecord⟩
  exact exec_tick_inactive_of_done hkept (congrArg Session.active hrecord) rfl

end Sys2Proof.Machine
end

section
/-! PROOFS. One step (R58, R61), and the invariants every step keeps (R20, R21, R28, R29): what a record with R28's
properties looks like, and the three ways a row of `Ran` treats the records: left, one written, or all reset. -/

namespace Sys2Proof.Machine

/-! One step, by what the inbox holds. -/

theorem step_of_inbox_nil {s : State} (hlegal : s.legalConfig = true) (hinbox : s.inbox = []) :
    step s = .next s := by
  simp [step, hlegal, State.takeInput, hinbox]

theorem step_of_decode_ok {s : State} {input : Input} {rest : List Input} {i : Instr}
    (hlegal : s.legalConfig = true) (hinbox : s.inbox = input :: rest) (hi : decode s.wireContext input = .ok i) :
    step s = exec i { s with inbox := rest } := by
  simp [step, hlegal, State.takeInput, hinbox, hi]

theorem step_of_decode_error {s : State} {input : Input} {rest : List Input} {e : DecodeError}
    (hlegal : s.legalConfig = true) (hinbox : s.inbox = input :: rest) (he : decode s.wireContext input = .error e) :
    step s = .next (State.refuse { s with inbox := rest } (.undecodable e)) := by
  simp [step, hlegal, State.takeInput, hinbox, he]

theorem step_of_illegal {s : State} (hlegal : s.legalConfig = false) : step s = .refused .illegalConfiguration := by
  simp [step, hlegal]

/-- Everything one step can do: wait, refuse an input that is no event, or run an instruction. -/
theorem step_cases {s t : State} (h : step s = .next t) : s.legalConfig = true ∧
    ((s.inbox = [] ∧ t = s) ∨
    (∃ input rest e, s.inbox = input :: rest ∧ t = State.refuse { s with inbox := rest } (.undecodable e)) ∨
    (∃ input rest i, s.inbox = input :: rest ∧ Ran i { s with inbox := rest } t)) := by
  cases hlegal : s.legalConfig with
  | false => rw [step_of_illegal hlegal] at h; cases h
  | true =>
    refine ⟨rfl, ?_⟩
    cases hinbox : s.inbox with
    | nil => rw [step_of_inbox_nil hlegal hinbox] at h; cases h; exact .inl ⟨rfl, rfl⟩
    | cons input rest =>
      cases hdecode : decode s.wireContext input with
      | error e =>
        rw [step_of_decode_error hlegal hinbox hdecode] at h
        cases h
        exact .inr (.inl ⟨_, _, e, rfl, rfl⟩)
      | ok i =>
        rw [step_of_decode_ok hlegal hinbox hdecode] at h
        exact .inr (.inr ⟨_, _, i, rfl, exec_ran h⟩)

/-- R33: the intervals of a legal configuration. -/
theorem one_le_intervals {s : State} (hlegal : s.legalConfig = true) :
    1 ≤ s.cfg.pollInterval ∧ 1 ≤ s.cfg.reconnectInterval := by
  simp only [State.legalConfig, Bool.and_eq_true, decide_eq_true_eq] at hlegal
  exact hlegal.1.1

/-! Records with R28's properties. -/

/-- R28: a connected session's record. -/
abbrev Session.connectedOn (iface : InterfaceId) (rem : Nat) : Session :=
  ⟨true, some iface, .connected, armedTimer rem, disarmedTimer⟩

/-- R28: the record of a session that waits for its next reconnect attempt. -/
abbrev Session.waitingOn (iface : InterfaceId) (rem : Nat) : Session :=
  ⟨true, some iface, .disconnected, disarmedTimer, armedTimer rem⟩

theorem Timer.inv_disarmed (interval : Nat) : disarmedTimer.Inv interval := rfl

theorem Timer.inv_armed {rem interval : Nat} (hpos : 1 ≤ rem) (hle : rem ≤ interval) :
    (armedTimer rem).Inv interval := ⟨hpos, hle⟩

theorem Timer.Inv.eq_disarmed {t : Timer} {interval : Nat} (hinv : t.Inv interval) (h : t.armed = false) :
    t = disarmedTimer := by
  obtain ⟨armed, rem⟩ := t
  cases h
  exact congrArg (Timer.mk false) hinv

theorem Timer.Inv.eq_armed {t : Timer} {interval : Nat} (hinv : t.Inv interval) (h : t.armed = true) :
    ∃ rem, t = armedTimer rem ∧ 1 ≤ rem ∧ rem ≤ interval := by
  obtain ⟨armed, rem⟩ := t
  cases h
  exact ⟨rem, rfl, hinv⟩

theorem Session.inv_reset (cfg : ConfigRegs) : Session.reset.Inv cfg :=
  ⟨nofun, nofun, nofun, nofun, nofun, Timer.inv_disarmed _, Timer.inv_disarmed _, nofun, fun _ => rfl⟩

theorem Session.inv_connectedOn {cfg : ConfigRegs} (iface : InterfaceId) {rem : Nat} (hpos : 1 ≤ rem)
    (hle : rem ≤ cfg.pollInterval) : (Session.connectedOn iface rem).Inv cfg :=
  ⟨fun _ => ⟨rfl, rfl⟩, nofun, fun _ _ => rfl, fun _ => nofun, nofun, Timer.inv_armed hpos hle,
    Timer.inv_disarmed _, fun _ => nofun, nofun⟩

theorem Session.inv_waitingOn {cfg : ConfigRegs} (iface : InterfaceId) {rem : Nat} (hpos : 1 ≤ rem)
    (hle : rem ≤ cfg.reconnectInterval) : (Session.waitingOn iface rem).Inv cfg :=
  ⟨nofun, fun _ => ⟨rfl, rfl⟩, fun _ => nofun, fun _ _ => rfl, nofun, Timer.inv_disarmed _,
    Timer.inv_armed hpos hle, fun _ => nofun, nofun⟩

/-- R28: an active record is of one of the two kinds, by its link. -/
theorem Session.Inv.eq_connectedOn {r : Session} {cfg : ConfigRegs} (hinv : r.Inv cfg) (hactive : r.active = true)
    (hlink : r.link = .connected) :
    ∃ iface rem, r = Session.connectedOn iface rem ∧ 1 ≤ rem ∧ rem ≤ cfg.pollInterval := by
  obtain ⟨-, -, hpoll, -, hboth, hpollInv, hrecInv, hiface, -⟩ := hinv
  obtain ⟨active, iface, link, poll, reconnect⟩ := r
  cases hactive
  cases hlink
  obtain ⟨iface, rfl⟩ := Option.ne_none_iff_exists'.1 (hiface rfl)
  obtain ⟨rem, rfl, hrange⟩ := Timer.Inv.eq_armed hpollInv (hpoll rfl rfl)
  obtain rfl := Timer.Inv.eq_disarmed hrecInv (Bool.eq_false_iff.2 fun hrec => hboth ⟨rfl, hrec⟩)
  exact ⟨iface, rem, rfl, hrange⟩

theorem Session.Inv.eq_waitingOn {r : Session} {cfg : ConfigRegs} (hinv : r.Inv cfg) (hactive : r.active = true)
    (hlink : r.link = .disconnected) :
    ∃ iface rem, r = Session.waitingOn iface rem ∧ 1 ≤ rem ∧ rem ≤ cfg.reconnectInterval := by
  obtain ⟨-, -, -, hrec, hboth, hpollInv, hrecInv, hiface, -⟩ := hinv
  obtain ⟨active, iface, link, poll, reconnect⟩ := r
  cases hactive
  cases hlink
  obtain ⟨iface, rfl⟩ := Option.ne_none_iff_exists'.1 (hiface rfl)
  obtain ⟨rem, rfl, hrange⟩ := Timer.Inv.eq_armed hrecInv (hrec rfl rfl)
  obtain rfl := Timer.Inv.eq_disarmed hpollInv (Bool.eq_false_iff.2 fun hpoll => hboth ⟨hpoll, rfl⟩)
  exact ⟨iface, rem, rfl, hrange⟩

theorem Session.Inv.eq_connectedOn_of_poll {r : Session} {cfg : ConfigRegs} (hinv : r.Inv cfg)
    (hpoll : r.poll.armed = true) :
    ∃ iface rem, r = Session.connectedOn iface rem ∧ 1 ≤ rem ∧ rem ≤ cfg.pollInterval := by
  obtain ⟨hpollLink, -⟩ := id hinv
  obtain ⟨hactive, hlink⟩ := hpollLink hpoll
  exact hinv.eq_connectedOn hactive hlink

theorem Session.Inv.eq_waitingOn_of_reconnect {r : Session} {cfg : ConfigRegs} (hinv : r.Inv cfg)
    (hrec : r.reconnect.armed = true) :
    ∃ iface rem, r = Session.waitingOn iface rem ∧ 1 ≤ rem ∧ rem ≤ cfg.reconnectInterval := by
  obtain ⟨-, hrecLink, -⟩ := id hinv
  obtain ⟨hactive, hlink⟩ := hrecLink hrec
  exact hinv.eq_waitingOn hactive hlink

/-! The state's invariants, by what is written. -/

theorem State.Inv.session {s : State} (hinv : s.Inv) {n : Nat} (hn : n < s.nSessions) : (s.session n).Inv s.cfg := by
  obtain ⟨-, hrecords, -⟩ := hinv
  exact hrecords _ (session_mem hn)

/-- R28 (vii): an inactive session has its reset values. -/
theorem State.Inv.session_eq_reset {s : State} (hinv : s.Inv) {n : Nat} (hn : n < s.nSessions)
    (hinactive : (s.session n).active = false) : s.session n = Session.reset := by
  obtain ⟨-, -, -, -, -, -, -, -, hreset⟩ := hinv.session hn
  exact hreset hinactive

theorem State.Inv.crcReady_of_live {s : State} (hinv : s.Inv) {n : Nat} (hlive : s.Live n) : s.crcReady = true := by
  obtain ⟨-, -, -, htable⟩ := hinv
  exact htable ⟨_, session_mem hlive.1, hlive.2⟩

theorem session_setSession {s : State} {n : Nat} (r : Session) (hn : n < s.nSessions) (m : Nat) :
    (s.setSession n r).session m = if m = n then r else s.session m := by
  split
  · next hmn => rw [hmn, session_setSession_same r hn]
  · next hmn => exact session_setSession_ne r hmn

/-- One record is written: it must have R28's properties, and, when active, the table and an interface of its own. -/
theorem State.Inv.setSession {s : State} (hinv : s.Inv) {n : Nat} {r : Session} (hn : n < s.nSessions)
    (hr : r.Inv s.cfg) (hready : r.active = true → s.crcReady = true)
    (hown : r.active = true → ∀ m < s.nSessions, m ≠ n → (s.session m).active = true →
      (s.session m).iface ≠ r.iface) : (s.setSession n r).Inv := by
  obtain ⟨hcrc, hrecords, hiface, htable⟩ := hinv
  refine ⟨hcrc, fun r' hr' => ?_, fun m hm k hk hne => ?_, fun ⟨r', hr', hactive⟩ => ?_⟩
  · obtain hold | rfl := List.mem_or_eq_of_mem_set hr'
    · exact hrecords r' hold
    · exact hr
  · rw [nSessions_setSession] at hm hk
    rw [session_setSession r hn m, session_setSession r hn k]
    split_ifs with hmn hkn hkn
    · exact absurd (hmn.trans hkn.symm) hne
    · exact fun ha hb => (hown ha k hk hkn hb).symm
    · exact fun ha hb => hown hb m hm hmn ha
    · exact hiface m hm k hk hne
  · obtain hold | rfl := List.mem_or_eq_of_mem_set hr'
    · exact htable ⟨r', hold, hactive⟩
    · exact hready hactive

/-- A live session's record is written and keeps its interface. -/
theorem State.Inv.setSession_live {s : State} (hinv : s.Inv) {n : Nat} {r : Session} (hlive : s.Live n)
    (hr : r.Inv s.cfg) (hiface : r.iface = (s.session n).iface) : (s.setSession n r).Inv := by
  obtain ⟨-, -, hdistinct, -⟩ := id hinv
  exact hinv.setSession hlive.1 hr (fun _ => hinv.crcReady_of_live hlive) fun _ m hm hne hactive =>
    hiface ▸ hdistinct m hm n hlive.1 hne hactive hlive.2

/-- R180: a session is created on an interface that no other active session uses. -/
theorem State.Inv.setSession_unused {s : State} (hinv : s.Inv) {n : Nat} {r : Session} {t : CrcTable}
    (hn : n < s.nSessions) (hr : r.Inv s.cfg) (htable : s.readyTable = some t) {iface : InterfaceId}
    (hiface : r.iface = some iface) (hunused : s.ifaceInUse n iface = false) : (s.setSession n r).Inv := by
  refine hinv.setSession hn hr (fun _ => (readyTable_eq_some.1 htable).1) fun _ m _ hne hactive hsame => ?_
  have hused : s.ifaceInUse n iface = true := ifaceInUse_iff.2 ⟨m, hne, hactive, hsame.trans hiface⟩
  simp [hused] at hunused

/-- R24, R260: with no table and every record at its reset values nothing is left to require. -/
theorem State.inv_of_all_reset {s : State} (hready : s.crcReady = false) (hpoly : s.crcPoly = none)
    (htable : s.crcTable = none) (hreset : ∀ r ∈ s.sessions, r = Session.reset) : s.Inv := by
  refine ⟨.inl ⟨hready, hpoly, htable⟩, fun r hr => hreset r hr ▸ Session.inv_reset _, fun m hm n _ _ hactive => ?_,
    fun ⟨r, hr, hactive⟩ => ?_⟩
  · rw [hreset _ (session_mem hm)] at hactive
    cases hactive
  · rw [hreset r hr] at hactive
    cases hactive

/-- R101: CRC_INIT writes the three registers together; no record of a session depends on them. -/
theorem State.Inv.crcInit {s : State} (hinv : s.Inv) (poly : Half) :
    State.Inv { s with crcTable := some (crcTableOf poly), crcPoly := some poly, crcReady := true } := by
  obtain ⟨-, hrecords, hiface, -⟩ := hinv
  exact ⟨.inr ⟨rfl, Option.some_ne_none _, rfl⟩, hrecords, hiface, fun _ => rfl⟩

/-- R20, R28, R29: each row keeps the invariants. -/
theorem Ran.inv {i : Instr} {s t : State} (h : Ran i s t) (hpollPos : 1 ≤ s.cfg.pollInterval)
    (hrecPos : 1 ≤ s.cfg.reconnectInterval) (hinv : s.Inv) : t.Inv := by
  cases h with
  | refused | ignored | returned | received | setupInUse | noTimer | reported => exact hinv
  | reset => exact State.inv_of_all_reset rfl rfl rfl (by simp)
  | crcInit => exact hinv.crcInit _
  | setupOpen hn _ hunused htable =>
    exact hinv.setSession_unused hn (Session.inv_connectedOn _ hpollPos le_rfl) htable rfl hunused
  | @setupFail n iface _ _ hn hinactive hunused htable =>
    rw [hinv.session_eq_reset hn hinactive]
    exact hinv.setSession_unused (r := Session.waitingOn iface _) hn (Session.inv_waitingOn iface hrecPos le_rfl)
      htable rfl hunused
  | @teardown n _ hlive =>
    exact hinv.setSession (r := Session.reset) hlive.1 (Session.inv_reset _) nofun nofun
  | @pollCount n _ hlive hpoll hleft =>
    obtain ⟨iface, rem, hr, -, hle⟩ := (hinv.session hlive.1).eq_connectedOn_of_poll hpoll
    refine hinv.setSession_live hlive ?_ rfl
    rw [hr] at hleft ⊢
    exact Session.inv_connectedOn iface (Nat.one_le_iff_ne_zero.2 hleft) (Nat.le_trans (Nat.sub_le _ _) hle)
  | @pollFire n _ _ hlive hpoll =>
    obtain ⟨iface, rem, hr, -⟩ := (hinv.session hlive.1).eq_connectedOn_of_poll hpoll
    refine hinv.setSession_live hlive ?_ rfl
    rw [hr]
    exact Session.inv_connectedOn iface hpollPos le_rfl
  | @reconnectCount n _ hlive _ hrec hleft =>
    obtain ⟨iface, rem, hr, -, hle⟩ := (hinv.session hlive.1).eq_waitingOn_of_reconnect hrec
    refine hinv.setSession_live hlive ?_ rfl
    rw [hr] at hleft ⊢
    exact Session.inv_waitingOn iface (Nat.one_le_iff_ne_zero.2 hleft) (Nat.le_trans (Nat.sub_le _ _) hle)
  | @reconnectOpen n _ _ hlive _ hrec =>
    obtain ⟨iface, rem, hr, -⟩ := (hinv.session hlive.1).eq_waitingOn_of_reconnect hrec
    refine hinv.setSession_live hlive ?_ rfl
    rw [hr]
    exact Session.inv_connectedOn iface hpollPos le_rfl
  | @reconnectFail n _ hlive _ hrec =>
    obtain ⟨iface, rem, hr, -⟩ := (hinv.session hlive.1).eq_waitingOn_of_reconnect hrec
    refine hinv.setSession_live hlive ?_ rfl
    rw [hr]
    exact Session.inv_waitingOn iface hrecPos le_rfl
  | @lost _ n _ _ _ _ hlive hlink =>
    obtain ⟨iface, rem, hr, -⟩ := (hinv.session hlive.1).eq_connectedOn hlive.2 hlink
    refine hinv.setSession_live hlive ?_ rfl
    rw [hr]
    exact Session.inv_waitingOn iface hrecPos le_rfl

/-- Settles O47: taking an input and refusing one leave what the invariants speak of; a row of `Ran` keeps it. -/
theorem stepKeepsInvariant : Obligations.StepKeepsInvariant := by
  intro s t hinv h
  obtain ⟨hlegal, ⟨-, rfl⟩ | ⟨_, _, _, -, rfl⟩ | ⟨_, rest, i, -, hran⟩⟩ := step_cases h
  · exact hinv
  · exact hinv
  · obtain ⟨hpoll, hrec⟩ := one_le_intervals hlegal
    exact hran.inv hpoll hrec hinv

/-- Settles O46: power-on has no table and only reset records, and the configuration is this hardware's. -/
theorem invariantAtReset : Obligations.InvariantAtReset :=
  ⟨State.inv_of_all_reset rfl rfl rfl fun _ hr => List.eq_of_mem_replicate hr, by decide⟩

/-- Settles O44: the two equations of `step` for a delivered input, and `wireContext` once the table is ready. -/
theorem stepRunsDecodedInput : Obligations.StepRunsDecodedInput := fun _ _ _ hlegal hinbox =>
  ⟨fun _ => step_of_decode_ok hlegal hinbox, fun _ => step_of_decode_error hlegal hinbox, fun _ hready => by
    rw [State.wireContext, readyTable_eq_some.2 hready, Option.getD_some]⟩

/-- Settles O45: the equation of `step` for an empty inbox. -/
theorem stepWaitsForInput : Obligations.StepWaitsForInput := fun _ => step_of_inbox_nil

end Sys2Proof.Machine
end

section
/-! PROOFS. The decoder and the encoder (R71, R73, R81, R84): each channel's two round trips, and the classes of a
received buffer, each with the instruction it decodes to and the verdict PARSE gives it. -/

namespace Sys2Proof.Machine

/-! Event records (log 3). -/

theorem bytesOfIndex_indexOfBytes (b3 b2 b1 b0 : Byte) :
    bytesOfIndex (indexOfBytes b3 b2 b1 b0) = [b3, b2, b1, b0] := by
  rw [bytesOfIndex, indexOfBytes, BitVec.ofNat_toNat, BitVec.setWidth_eq, bytesOfWord_be32]

theorem indexFits_indexOfBytes (b3 b2 b1 b0 : Byte) : indexFits (indexOfBytes b3 b2 b1 b0) = true :=
  decide_eq_true (be32 b3 b2 b1 b0).isLt

theorem decodeIndexOnly_bytesOfIndex (tag : Byte) (k : Nat → Instr) {n : Nat} (hfits : indexFits n = true) :
    decodeIndexOnly tag k (bytesOfIndex n) = .ok (k n) := by
  obtain ⟨b3, b2, b1, b0, hbytes, hn⟩ := indexOfBytes_bytesOfIndex (of_decide_eq_true hfits)
  rw [hbytes, decodeIndexOnly, hn]

theorem decodeIndexAndBytes_bytesOfIndex (tag : Byte) (k : Nat → List Byte → Instr) {n : Nat} (rest : List Byte)
    (hfits : indexFits n = true) : decodeIndexAndBytes tag k (bytesOfIndex n ++ rest) = .ok (k n rest) := by
  obtain ⟨b3, b2, b1, b0, hbytes, hn⟩ := indexOfBytes_bytesOfIndex (of_decide_eq_true hfits)
  rw [hbytes]
  exact congrArg (fun m => Except.ok (k m rest)) hn

theorem decodeIndexOnly_eq_ok {tag : Byte} {k : Nat → Instr} {ops : List Byte} {i : Instr}
    (h : decodeIndexOnly tag k ops = .ok i) : ∃ n, indexFits n = true ∧ i = k n ∧ bytesOfIndex n = ops := by
  unfold decodeIndexOnly at h
  split at h
  · cases h; exact ⟨_, indexFits_indexOfBytes .., rfl, bytesOfIndex_indexOfBytes ..⟩
  · cases h

theorem decodeIndexAndBytes_eq_ok {tag : Byte} {k : Nat → List Byte → Instr} {ops : List Byte} {i : Instr}
    (h : decodeIndexAndBytes tag k ops = .ok i) :
    ∃ n rest, indexFits n = true ∧ i = k n rest ∧ bytesOfIndex n ++ rest = ops := by
  unfold decodeIndexAndBytes at h
  split at h
  · cases h
    exact ⟨_, _, indexFits_indexOfBytes .., rfl, by rw [bytesOfIndex_indexOfBytes]; rfl⟩
  · cases h

theorem decodeCommand_eq_some_iff {b : Byte} {cmd : CommandId} :
    decodeCommand b = some cmd ↔ b = encodeCommand cmd := by
  constructor
  · intro h
    unfold decodeCommand at h
    split_ifs at h with h0 h1 h2
    · cases h; exact h0
    · cases h; exact h1
    · cases h; exact h2
  · rintro rfl
    cases cmd <;> rfl

theorem decodeBuild_encodeCommand (cmd : CommandId) : decodeBuild [encodeCommand cmd] = .ok (.build cmd) := by
  rw [decodeBuild, decodeCommand_eq_some_iff.2 rfl]

theorem decodeBuild_eq_ok {ops : List Byte} {i : Instr} (h : decodeBuild ops = .ok i) :
    ∃ cmd, i = .build cmd ∧ [encodeCommand cmd] = ops := by
  unfold decodeBuild at h
  split at h
  · split at h
    · next hcmd => cases h; exact ⟨_, rfl, by rw [decodeCommand_eq_some_iff.1 hcmd]⟩
    · cases h
  · cases h

theorem decodeReset_eq_ok {ops : List Byte} {i : Instr} (h : decodeReset ops = .ok i) : i = .reset ∧ ops = [] := by
  unfold decodeReset at h
  split at h
  · cases h; exact ⟨rfl, rfl⟩
  · cases h

theorem decodeCrcInit_eq_ok {ops : List Byte} {i : Instr} (h : decodeCrcInit ops = .ok i) :
    ∃ poly, i = .crcInit poly ∧ bytesOfHalf poly = ops := by
  unfold decodeCrcInit at h
  split at h
  · cases h; exact ⟨_, rfl, bytesOfHalf_be16 _ _⟩
  · cases h

/-- R84: an accepted record is its event's encoding, tag by tag. -/
theorem decodeEvent_eq_ok {w : WireContext} {record : List Byte} {i : Instr} (h : decodeEvent record = .ok i) :
    wellFormed w i = true ∧ encode w i = .event record := by
  cases record with
  | nil => cases h
  | cons tag ops =>
    rw [decodeEvent] at h
    obtain ⟨rfl, h⟩ | ⟨-, h⟩ := ite_eq_iff.1 h
    · obtain ⟨rfl, rfl⟩ := decodeReset_eq_ok h
      exact ⟨rfl, rfl⟩
    obtain ⟨rfl, h⟩ | ⟨-, h⟩ := ite_eq_iff.1 h
    · obtain ⟨_, rfl, rfl⟩ := decodeCrcInit_eq_ok h
      exact ⟨rfl, rfl⟩
    obtain ⟨rfl, h⟩ | ⟨-, h⟩ := ite_eq_iff.1 h
    · cases h
      exact ⟨rfl, rfl⟩
    obtain ⟨rfl, h⟩ | ⟨-, h⟩ := ite_eq_iff.1 h
    · obtain ⟨_, rfl, rfl⟩ := decodeBuild_eq_ok h
      exact ⟨rfl, rfl⟩
    obtain ⟨rfl, h⟩ | ⟨-, h⟩ := ite_eq_iff.1 h
    · cases h
      exact ⟨rfl, rfl⟩
    obtain ⟨rfl, h⟩ | ⟨-, h⟩ := ite_eq_iff.1 h
    · obtain ⟨_, _, hfits, rfl, rfl⟩ := decodeIndexAndBytes_eq_ok h
      exact ⟨hfits, rfl⟩
    obtain ⟨rfl, h⟩ | ⟨-, h⟩ := ite_eq_iff.1 h
    · obtain ⟨_, hfits, rfl, rfl⟩ := decodeIndexOnly_eq_ok h
      exact ⟨hfits, rfl⟩
    obtain ⟨rfl, h⟩ | ⟨-, h⟩ := ite_eq_iff.1 h
    · obtain ⟨_, hfits, rfl, rfl⟩ := decodeIndexOnly_eq_ok h
      exact ⟨hfits, rfl⟩
    obtain ⟨rfl, h⟩ | ⟨-, h⟩ := ite_eq_iff.1 h
    · obtain ⟨_, _, hfits, rfl, rfl⟩ := decodeIndexAndBytes_eq_ok h
      exact ⟨hfits, rfl⟩
    obtain ⟨rfl, h⟩ | ⟨-, h⟩ := ite_eq_iff.1 h
    · obtain ⟨_, _, hfits, rfl, rfl⟩ := decodeIndexAndBytes_eq_ok h
      exact ⟨hfits, rfl⟩
    obtain ⟨rfl, h⟩ | ⟨-, h⟩ := ite_eq_iff.1 h
    · obtain ⟨_, hfits, rfl, rfl⟩ := decodeIndexOnly_eq_ok h
      exact ⟨hfits, rfl⟩
    cases h

/-! Request frames. -/

/-- R71, R78: the code of a request frame stands at bytes 3 and 4. -/
theorem codeBytes_requestFrame (oob : Byte) (t : CrcTable) (code : Half) :
    be16 (readByte oob (requestFrame t code) 3) (readByte oob (requestFrame t code) 4) = code := be16_hi_lo code

theorem decodeRequest_totalEnergy (w : WireContext) :
    decodeRequest w (requestFrame w.table (registeredCode .totalEnergy)) = .ok .reqTotalEnergy := by
  simp only [decodeRequest, codeBytes_requestFrame, registryFind_eq_some_iff.2 rfl, ne_eq, not_true_eq_false,
    if_false]

theorem decodeRequest_currentPower (w : WireContext) :
    decodeRequest w (requestFrame w.table (registeredCode .currentPower)) = .ok .reqCurrentPower := by
  simp only [decodeRequest, codeBytes_requestFrame, registryFind_eq_some_iff.2 rfl, ne_eq, not_true_eq_false,
    if_false]

theorem decodeRequest_testerId {w : WireContext} {code : Half} (hcode : w.testerIdCode = some code)
    (hfree : registryFind code = none) : decodeRequest w (requestFrame w.table code) = .ok .reqTesterId := by
  simp only [decodeRequest, codeBytes_requestFrame, hfree, hcode, ne_eq, not_true_eq_false, if_false, if_true]

/-- R71: an accepted request is the frame of the code it carries. -/
theorem decodeRequest_eq_ok {w : WireContext} {frame : List Byte} {i : Instr} (h : decodeRequest w frame = .ok i) :
    wellFormed w i = true ∧ encode w i = .request frame := by
  obtain ⟨code, hcode⟩ : ∃ code, code = be16 (readByte 0x00#8 frame 3) (readByte 0x00#8 frame 4) := ⟨_, rfl⟩
  simp only [decodeRequest, ← hcode] at h
  by_cases hframe : frame = requestFrame w.table code
  swap
  · rw [if_pos hframe] at h; cases h
  rw [if_neg (not_not.2 hframe)] at h
  rw [hframe]
  split at h
  · next hfound => cases h; rw [← registryFind_eq_some_iff.1 hfound]; exact ⟨rfl, rfl⟩
  · next hfound => cases h; rw [← registryFind_eq_some_iff.1 hfound]; exact ⟨rfl, rfl⟩
  · next hfree =>
    split_ifs at h with htester
    cases h
    simp [wellFormed, encode, htester, hfree]

/-! Received buffers. -/

/-- R81 rows 6 to 10: the payloads of a valid frame: no code in it, the value of a registered code, a registered code
with another length, or another code. -/
inductive PayloadClass : List Byte → Prop where
  | short {payload} (h : payload.length ≤ 2) : PayloadClass payload
  | totalEnergy (v) : PayloadClass (bytesOfHalf (registeredCode .totalEnergy) ++ bytesOfWord v)
  | currentPower (v) : PayloadClass (bytesOfHalf (registeredCode .currentPower) ++ bytesOfHalf v)
  | wrongLen {c rest} (hpos : 1 ≤ rest.length) (hbyte : rest.length ≤ 253) (hlen : rest.length + 2 ≠ expectedLen c) :
      PayloadClass (bytesOfHalf (registeredCode c) ++ rest)
  | unknown {code rest} (hpos : 1 ≤ rest.length) (hbyte : rest.length ≤ 253) (hfree : registryFind code = none) :
      PayloadClass (bytesOfHalf code ++ rest)

theorem exists_bytesOfWord {rest : List Byte} (h : rest.length = 4) : ∃ v, rest = bytesOfWord v := by
  match rest, h with
  | [a, b, c, d], _ => exact ⟨be32 a b c d, (bytesOfWord_be32 a b c d).symm⟩

theorem exists_bytesOfHalf {rest : List Byte} (h : rest.length = 2) : ∃ v, rest = bytesOfHalf v := by
  match rest, h with
  | [a, b], _ => exact ⟨be16 a b, (bytesOfHalf_be16 a b).symm⟩

/-- A payload of 3 bytes or more is a code and what follows it. -/
theorem exists_code_of_payload {payload : List Byte} (h : ¬ payload.length ≤ 2) :
    ∃ code rest, payload = bytesOfHalf code ++ rest ∧ 1 ≤ rest.length := by
  match payload, h with
  | hi :: lo :: x :: rest, _ => exact ⟨be16 hi lo, x :: rest, by rw [bytesOfHalf_be16]; rfl, by simp⟩
  | [], h | [_], h | [_, _], h => simp at h

theorem payloadClass {payload : List Byte} (hbyte : payload.length ≤ 255) : PayloadClass payload := by
  by_cases hshort : payload.length ≤ 2
  · exact .short hshort
  obtain ⟨code, rest, rfl, hpos⟩ := exists_code_of_payload hshort
  rw [List.length_append, length_bytesOfHalf] at hbyte
  have hrest : rest.length ≤ 253 := by omega
  cases hfound : registryFind code with
  | none => exact .unknown hpos hrest hfound
  | some c =>
    obtain rfl := registryFind_eq_some_iff.1 hfound
    by_cases hlen : rest.length + 2 = expectedLen c
    · cases c with
      | totalEnergy => obtain ⟨v, rfl⟩ := exists_bytesOfWord (Nat.add_right_cancel hlen); exact .totalEnergy v
      | currentPower => obtain ⟨v, rfl⟩ := exists_bytesOfHalf (Nat.add_right_cancel hlen); exact .currentPower v
    · exact .wrongLen hpos hrest hlen

/-- R81: a gate rejects a buffer, or it is the frame of a payload of one of the classes. -/
theorem gate_or_responseFrame (t : CrcTable) (buf : List Byte) :
    (∃ gate, gateError 0x00#8 t buf = some gate) ∨
    ∃ payload trailer, PayloadClass payload ∧ buf = responseFrame t payload trailer := by
  cases hgate : gateError 0x00#8 t buf with
  | some gate => exact .inl ⟨gate, rfl⟩
  | none =>
    obtain ⟨payload, trailer, hbyte, hbuf⟩ := eq_responseFrame_of_gate hgate
    exact .inr ⟨payload, trailer, payloadClass hbyte, hbuf⟩

section Decode
variable (t : CrcTable) (link : Nat)

theorem decodeResponse_illegal {buf : List Byte} {gate : GateError} (h : gateError 0x00#8 t buf = some gate) :
    decodeResponse t link buf = .rspIllegal link gate buf := by simp only [decodeResponse, h]

theorem readByte_responseFrame_last (oob : Byte) (payload : List Byte) (trailer : Byte) :
    readByte oob (responseFrame t payload trailer) (payload.length + 6) = trailer :=
  readByte_responseFrame_tail t payload trailer oob 2

theorem decodeResponse_short {payload : List Byte} (trailer : Byte) (h : payload.length ≤ 2) :
    decodeResponse t link (responseFrame t payload trailer) = .rspNoDispatch link payload trailer := by
  have hbyte : payload.length ≤ 255 := by omega
  have hpayload := slice_responseFrame_payload t payload trailer (Nat.zero_le _)
  simp only [decodeResponse, gateError_responseFrame t payload trailer _ hbyte,
    lenField_responseFrame t payload trailer _ hbyte, if_pos h, readByte_responseFrame_last]
  exact congrArg (Instr.rspNoDispatch link · trailer) hpayload

/-- R81 rows 6 to 10: the frame of a code and what follows it, by what the registry finds. -/
theorem decodeResponse_code (code : Half) {rest : List Byte} (trailer : Byte) (hpos : 1 ≤ rest.length)
    (hbyte : rest.length ≤ 253) {buf : List Byte} (hbuf : buf = responseFrame t (bytesOfHalf code ++ rest) trailer) :
    (registryFind code = none → decodeResponse t link buf = .rspUnknown link code rest trailer) ∧
    (∀ c, registryFind code = some c → rest.length + 2 ≠ expectedLen c →
      decodeResponse t link buf = .rspDecodeLen link c rest trailer) ∧
    (registryFind code = some .totalEnergy → rest.length = 4 →
      decodeResponse t link buf = .rspTotalEnergy link (decodeTotalEnergy 0x00#8 buf) trailer) ∧
    (registryFind code = some .currentPower → rest.length = 2 →
      decodeResponse t link buf = .rspCurrentPower link (decodeCurrentPower 0x00#8 buf) trailer) := by
  have hlength : (bytesOfHalf code ++ rest).length = rest.length + 2 := by
    rw [List.length_append, length_bytesOfHalf, Nat.add_comm]
  have hpayload : (bytesOfHalf code ++ rest).length ≤ 255 := by omega
  have hgate : gateError 0x00#8 t buf = none := hbuf ▸ gateError_responseFrame t _ trailer _ hpayload
  have hlen : lenField 0x00#8 buf = rest.length + 2 :=
    hbuf ▸ hlength ▸ lenField_responseFrame t _ trailer _ hpayload
  have hcode : codeField 0x00#8 buf = code := hbuf ▸ be16_hi_lo code
  have hrest : slice buf 6 (rest.length + 2 + 3) = rest :=
    hbuf ▸ hlength ▸ slice_responseFrame_payload t _ trailer (k := 2) (by omega)
  have htrailer : readByte 0x00#8 buf (rest.length + 2 + 6) = trailer :=
    hbuf ▸ hlength ▸ readByte_responseFrame_last t _ _ trailer
  have hlong : ¬ rest.length + 2 ≤ 2 := by omega
  simp only [decodeResponse, hgate, hlen, hcode, hrest, htrailer, if_neg hlong]
  refine ⟨fun h => ?_, fun c h hwrong => ?_, fun h hfour => ?_, fun h htwo => ?_⟩
  · simp only [h]
  · simp only [h, if_pos hwrong]
  · simp [h, hfour, expectedLen]
  · simp [h, htwo, expectedLen]

theorem decodeResponse_unknown {code : Half} {rest : List Byte} (trailer : Byte) (hpos : 1 ≤ rest.length)
    (hbyte : rest.length ≤ 253) (hfree : registryFind code = none) :
    decodeResponse t link (responseFrame t (bytesOfHalf code ++ rest) trailer) =
      .rspUnknown link code rest trailer := by
  obtain ⟨hunknown, -⟩ := decodeResponse_code t link code trailer hpos hbyte rfl
  exact hunknown hfree

theorem decodeResponse_wrongLen {c : Registered} {rest : List Byte} (trailer : Byte) (hpos : 1 ≤ rest.length)
    (hbyte : rest.length ≤ 253) (hlen : rest.length + 2 ≠ expectedLen c) :
    decodeResponse t link (responseFrame t (bytesOfHalf (registeredCode c) ++ rest) trailer) =
      .rspDecodeLen link c rest trailer := by
  obtain ⟨-, hwrong, -⟩ := decodeResponse_code t link (registeredCode c) trailer hpos hbyte rfl
  exact hwrong c (registryFind_eq_some_iff.2 rfl) hlen

theorem decodeResponse_totalEnergy (v : Word) (trailer : Byte) :
    decodeResponse t link
      (responseFrame t (bytesOfHalf (registeredCode .totalEnergy) ++ bytesOfWord v) trailer) =
      .rspTotalEnergy link v trailer := by
  obtain ⟨-, -, htotal, -⟩ := decodeResponse_code t link (registeredCode .totalEnergy) (rest := bytesOfWord v) trailer
    (by simp) (by simp) rfl
  rw [htotal (registryFind_eq_some_iff.2 rfl) rfl]
  exact congrArg (Instr.rspTotalEnergy link · trailer) (be32_bytes v)

theorem decodeResponse_currentPower (v : Half) (trailer : Byte) :
    decodeResponse t link
      (responseFrame t (bytesOfHalf (registeredCode .currentPower) ++ bytesOfHalf v) trailer) =
      .rspCurrentPower link v trailer := by
  obtain ⟨-, -, -, hpower⟩ := decodeResponse_code t link (registeredCode .currentPower) (rest := bytesOfHalf v) trailer
    (by simp) (by simp) rfl
  rw [hpower (registryFind_eq_some_iff.2 rfl) rfl]
  exact congrArg (Instr.rspCurrentPower link · trailer) (be16_hi_lo v)

end Decode

/-- R81: what a buffer decodes to is well formed and encodes back to the buffer. -/
theorem decodeResponse_wellFormed_encode (w : WireContext) (link : Nat) (buf : List Byte) :
    wellFormed w (decodeResponse w.table link buf) = true ∧
    encode w (decodeResponse w.table link buf) = .received link buf := by
  obtain ⟨gate, hgate⟩ | ⟨payload, trailer, hclass, rfl⟩ := gate_or_responseFrame w.table buf
  · rw [decodeResponse_illegal _ _ hgate]
    exact ⟨beq_iff_eq.2 hgate, rfl⟩
  cases hclass with
  | short hshort => rw [decodeResponse_short _ _ trailer hshort]; exact ⟨decide_eq_true hshort, rfl⟩
  | totalEnergy v => rw [decodeResponse_totalEnergy]; exact ⟨rfl, rfl⟩
  | currentPower v => rw [decodeResponse_currentPower]; exact ⟨rfl, rfl⟩
  | wrongLen hpos hbyte hlen =>
    rw [decodeResponse_wrongLen _ _ trailer hpos hbyte hlen]
    exact ⟨by simp [wellFormed, hpos, hbyte, hlen], rfl⟩
  | unknown hpos hbyte hfree =>
    rw [decodeResponse_unknown _ _ trailer hpos hbyte hfree]
    exact ⟨by simp [wellFormed, hpos, hbyte, hfree], rfl⟩

/-! The round trips. -/

/-- Settles O49, channel by channel; the decoder of received buffers has no error. -/
theorem encodeDecodeRoundTrip : Obligations.EncodeDecodeRoundTrip := by
  refine fun w input => ⟨fun i h => ?_, fun link buf hinput => ⟨_, congrArg (decode w) hinput⟩⟩
  cases input with
  | event record => exact decodeEvent_eq_ok h
  | request frame => exact decodeRequest_eq_ok h
  | received link buf => cases h; exact decodeResponse_wellFormed_encode w link buf

/-- Settles O48: each row by the decoder of its channel; a response row by the class its operands put the frame in. -/
theorem decodeEncodeRoundTrip : Obligations.DecodeEncodeRoundTrip := by
  intro w i hwf
  cases i with
  | reqTotalEnergy => exact decodeRequest_totalEnergy w
  | reqCurrentPower => exact decodeRequest_currentPower w
  | reqTesterId =>
    cases hcode : w.testerIdCode with
    | none => simp [wellFormed, hcode] at hwf
    | some code =>
      simp only [wellFormed, hcode, beq_iff_eq] at hwf
      simp only [encode, hcode, Option.map_some, Option.getD_some]
      exact decodeRequest_testerId hcode hwf
  | rspTotalEnergy link v trailer => exact congrArg Except.ok (decodeResponse_totalEnergy w.table link v trailer)
  | rspCurrentPower link v trailer => exact congrArg Except.ok (decodeResponse_currentPower w.table link v trailer)
  | rspNoDispatch link payload trailer =>
    exact congrArg Except.ok (decodeResponse_short w.table link trailer (of_decide_eq_true hwf))
  | rspDecodeLen link c rest trailer =>
    simp only [wellFormed, Bool.and_eq_true, decide_eq_true_eq, bne_iff_ne] at hwf
    obtain ⟨⟨hpos, hbyte⟩, hlen⟩ := hwf
    exact congrArg Except.ok (decodeResponse_wrongLen w.table link trailer hpos hbyte hlen)
  | rspUnknown link code rest trailer =>
    simp only [wellFormed, Bool.and_eq_true, decide_eq_true_eq, beq_iff_eq] at hwf
    obtain ⟨⟨hpos, hbyte⟩, hfree⟩ := hwf
    exact congrArg Except.ok (decodeResponse_unknown w.table link trailer hpos hbyte hfree)
  | rspIllegal link gate buf => exact congrArg Except.ok (decodeResponse_illegal w.table link (beq_iff_eq.1 hwf))
  | reset | crcCompute | parse => rfl
  | crcInit poly => exact congrArg (fun p => Except.ok (Instr.crcInit p)) (be16_hi_lo poly)
  | build cmd => exact decodeBuild_encodeCommand cmd
  | setup n iface => exact decodeIndexAndBytes_bytesOfIndex 0x10#8 _ iface hwf
  | data n chunk => exact decodeIndexAndBytes_bytesOfIndex 0x13#8 _ chunk hwf
  | error n sig => exact decodeIndexAndBytes_bytesOfIndex 0x14#8 _ sig hwf
  | teardown n => exact decodeIndexOnly_bytesOfIndex 0x11#8 _ hwf
  | tick n => exact decodeIndexOnly_bytesOfIndex 0x12#8 _ hwf
  | closed n => exact decodeIndexOnly_bytesOfIndex 0x15#8 _ hwf

/-- Settles O50: seven closed words, the frames under the table of this hardware. -/
theorem specWordsDecode : Obligations.SpecWordsDecode := by
  refine ⟨rfl, rfl, rfl, rfl, ?_, ?_, ?_⟩ <;> decide +kernel

/-! DATA and the class of its chunk (log 4). -/

/-- R122, R190: the table is asked for first, so two actions that agree under the table in use agree. -/
theorem onActiveSession_withTable_congr (n : Nat) {s : State} {k k' : CrcTable → State}
    (h : ∀ t, s.readyTable = some t → k t = k' t) :
    onActiveSession n s (withTable s k) = onActiveSession n s (withTable s k') := by
  cases htable : s.readyTable with
  | none => rw [withTable_none k htable, withTable_none k' htable]
  | some t => rw [withTable_some k htable, withTable_some k' htable, h t htable]

theorem wireContext_table {s : State} {t : CrcTable} (htable : s.readyTable = some t) : s.wireContext.table = t := by
  rw [State.wireContext, htable, Option.getD_some]

theorem parseFrame_of_gate {t : CrcTable} {buf : List Byte} {gate : GateError}
    (h : gateError 0x00#8 t buf = some gate) : parseFrame t buf = .err (gateCode gate) := by
  simp only [parseFrame, parseReading, h]

theorem parseFrame_responseFrame_wrongLen (t : CrcTable) {c : Registered} {rest : List Byte} (trailer : Byte)
    (hpos : 1 ≤ rest.length) (hbyte : rest.length ≤ 253) (hlen : rest.length + 2 ≠ expectedLen c) :
    parseFrame t (responseFrame t (bytesOfHalf (registeredCode c) ++ rest) trailer) = .err .decodeLen :=
  (parseFrame_responseFrame_code t trailer _ _ hpos hbyte).trans
    (dispatch_wrong_len (registryFind_eq_some_iff.2 (be16_hi_lo _).symm) hlen)

theorem parseFrame_responseFrame_unknown (t : CrcTable) {code : Half} {rest : List Byte} (trailer : Byte)
    (hpos : 1 ≤ rest.length) (hbyte : rest.length ≤ 253) (hfree : registryFind code = none) :
    parseFrame t (responseFrame t (bytesOfHalf code ++ rest) trailer) = .ignored code := by
  refine (parseFrame_responseFrame_code t trailer _ _ hpos hbyte).trans ?_
  rw [be16_hi_lo, dispatch_unknown hfree]

/-- Settles O22: class by class, PARSE's verdict makes DATA emit what the row of the class emits. -/
theorem dataEqualsItsResponseClass : Obligations.DataEqualsItsResponseClass := by
  intro n chunk s
  have hdata (v : Verdict) (hv : parseFrame s.wireContext.table chunk = v) :
      exec (.data n chunk) s = onActiveSession n s (withTable s fun _ => forwardVerdict n chunk v s) :=
    onActiveSession_withTable_congr n fun t ht => by rw [← hv, wireContext_table ht]
  obtain ⟨t, ht⟩ : ∃ t, t = s.wireContext.table := ⟨_, rfl⟩
  rw [← ht] at hdata ⊢
  obtain ⟨gate, hgate⟩ | ⟨payload, trailer, hclass, rfl⟩ := gate_or_responseFrame t chunk
  · rw [hdata _ (parseFrame_of_gate hgate), decodeResponse_illegal _ _ hgate]
    rfl
  cases hclass with
  | short hshort =>
    rw [hdata _ (parseFrame_responseFrame_short t trailer hshort), decodeResponse_short _ _ trailer hshort]
    rfl
  | totalEnergy v =>
    rw [hdata _ (parseFrame_responseFrame_totalEnergy t trailer v), decodeResponse_totalEnergy]
    rfl
  | currentPower v =>
    rw [hdata _ (parseFrame_responseFrame_currentPower t trailer v), decodeResponse_currentPower]
    rfl
  | wrongLen hpos hbyte hlen =>
    rw [hdata _ (parseFrame_responseFrame_wrongLen t trailer hpos hbyte hlen),
      decodeResponse_wrongLen _ _ trailer hpos hbyte hlen]
    exact onActiveSession_withTable_congr n fun u hu => by rw [ht, wireContext_table hu]; rfl
  | unknown hpos hbyte hfree =>
    rw [hdata _ (parseFrame_responseFrame_unknown t trailer hpos hbyte hfree),
      decodeResponse_unknown _ _ trailer hpos hbyte hfree]
    rfl

end Sys2Proof.Machine
end

section
/-! PROOFS. The table-driven CRC is the bit-serial one (R107), and how a valid frame answers to one flipped bit (R127):
a step of the CRC is injective in the register and in the byte, so a frame with one payload byte replaced carries the
wrong CRC. -/

namespace Sys2Proof.Machine

/-! The eight rounds, by the register's two halves. -/

/-- R100: a round is linear: its shift and its XOR act bit by bit. -/
theorem crcRound_xor (poly c : Half) {low : Half} (hlow : low.getLsbD 0 = false) :
    crcRound poly (low ^^^ c) = (low >>> 1) ^^^ crcRound poly c := by
  simp only [crcRound, BitVec.getLsbD_xor, hlow, Bool.false_xor, BitVec.ushiftRight_xor_distrib]
  split
  · exact BitVec.xor_assoc ..
  · rfl

/-- R100: `k` rounds shift a register part out unread when its low `k` bits are zero. -/
theorem iterate_crcRound_xor (poly c : Half) {high : Half} {k : Nat} (hhigh : ∀ j < k, high.getLsbD j = false) :
    (crcRound poly)^[k] (high ^^^ c) = (high >>> k) ^^^ (crcRound poly)^[k] c := by
  induction k with
  | zero => simp
  | succ k ih =>
    have hbit : (high >>> k).getLsbD 0 = false := by
      rw [BitVec.getLsbD_ushiftRight]
      exact hhigh k k.lt_succ_self
    rw [Function.iterate_succ_apply', ih fun j hj => hhigh j (Nat.lt_succ_of_lt hj), crcRound_xor _ _ hbit,
      ← BitVec.shiftRight_add, Function.iterate_succ_apply']

theorem setWidth_lo8 (v : Half) : (lo8 v).setWidth 16 = v &&& 0x00FF#16 := by
  apply BitVec.eq_of_toNat_eq
  have mask : v.toNat &&& 255 = v.toNat % 256 := Nat.and_two_pow_sub_one_eq_mod _ 8
  simp only [BitVec.toNat_setWidth, toNat_lo8, BitVec.toNat_and, BitVec.toNat_ofNat, Nat.reducePow, Nat.reduceMod,
    mask]
  omega

/-- The halves of a register into which a byte has been XORed; the high one is as it was. -/
theorem xor_byte_eq_halves (r : Half) (b : Byte) :
    r ^^^ b.setWidth 16 = (r >>> 8 <<< 8) ^^^ ((r ^^^ b.setWidth 16) &&& 0x00FF#16) := by
  have hmask (j : Nat) : (0x00FF#16).getLsbD j = decide (j < 8) := by
    rw [show 0x00FF#16 = (BitVec.allOnes 8).setWidth 16 from rfl, BitVec.getLsbD_setWidth, BitVec.getLsbD_allOnes,
      Bool.and_eq_right_iff_imp]
    simp only [decide_eq_true_eq]
    omega
  apply BitVec.eq_of_getLsbD_eq
  intro j hj
  simp only [BitVec.getLsbD_xor, BitVec.getLsbD_and, BitVec.getLsbD_shiftLeft, BitVec.getLsbD_ushiftRight, hmask, hj]
  by_cases hlow : j < 8
  · simp [hlow]
  · have hsum : 8 + (j - 8) = j := by omega
    have hhigh : b.getLsbD j = false := BitVec.getLsbD_of_ge b j (by omega)
    simp [hlow, hsum, hhigh]

/-- R102, R107: looking the low byte up in the table is shifting the register through eight rounds. -/
theorem crcStep_crcTableOf (poly r : Half) (b : Byte) :
    crcStep (crcTableOf poly) r b = crcStepBitwise poly r b := by
  have hhigh : ∀ j < 8, (r >>> 8 <<< 8).getLsbD j = false := fun j hj => by simp [hj]
  have hshift : r >>> 8 <<< 8 >>> 8 = r >>> 8 := by bv_omega
  rw [crcStepBitwise, xor_byte_eq_halves, iterate_crcRound_xor poly _ hhigh, hshift, crcStep, tableRead_crcTableOf,
    crcTableEntry, setWidth_lo8, BitVec.and_assoc, BitVec.and_self]

theorem crcOf_crcTableOf (poly : Half) (bytes : List Byte) :
    crcOf (crcTableOf poly) bytes = crcBitwise poly bytes := by
  rw [crcOf, crcBitwise, funext₂ (crcStep_crcTableOf poly), Config.crcInitValue]

/-- Settles O5: the rule's bit-serial loop is the model's own, eight rounds written out. -/
theorem tableCrcEqualsBitSerial : Obligations.TableCrcEqualsBitSerial := crcOf_crcTableOf

/-! Injectivity. -/

theorem getLsbD_crcRound_top {poly : Half} (htop : poly.getLsbD 15 = true) (c : Half) :
    (crcRound poly c).getLsbD 15 = c.getLsbD 0 := by
  unfold crcRound
  split
  · next hbit => rw [BitVec.getLsbD_xor, BitVec.getLsbD_ushiftRight, BitVec.getLsbD_of_ge _ _ (by decide), htop, hbit,
      Bool.false_xor]
  · next hbit => rw [BitVec.getLsbD_ushiftRight, BitVec.getLsbD_of_ge _ _ (by decide), Bool.eq_false_iff.2 hbit]

/-- With the polynomial's top bit set, the bit a round shifts out can be read in its result. -/
theorem crcRound_injective {poly : Half} (htop : poly.getLsbD 15 = true) : Function.Injective (crcRound poly) := by
  intro c d h
  have hbit : c.getLsbD 0 = d.getLsbD 0 := by rw [← getLsbD_crcRound_top htop, h, getLsbD_crcRound_top htop]
  have hshift : c >>> 1 = d >>> 1 := by
    simp only [crcRound, hbit] at h
    split at h
    · exact (BitVec.xor_left_inj _).1 h
    · exact h
  refine BitVec.eq_of_getLsbD_eq fun j _ => ?_
  cases j with
  | zero => exact hbit
  | succ j => simpa [Nat.add_comm] using congrArg (·.getLsbD j) hshift

theorem crcStepBitwise_injective_register {poly : Half} (htop : poly.getLsbD 15 = true) (b : Byte) :
    Function.Injective (crcStepBitwise poly · b) := fun _ _ h =>
  (BitVec.xor_left_inj _).1 ((crcRound_injective htop).iterate 8 h)

theorem crcStepBitwise_injective_byte {poly : Half} (htop : poly.getLsbD 15 = true) (r : Half) :
    Function.Injective (crcStepBitwise poly r) := fun a b h => by
  have hwide := (BitVec.xor_right_inj _).1 ((crcRound_injective htop).iterate 8 h)
  simpa using congrArg (BitVec.setWidth 8) hwide

/-- R102, R127: two sequences that differ in one byte have different CRCs. -/
theorem crcOf_ne_of_byte_ne {poly : Half} (htop : poly.getLsbD 15 = true) (before after : List Byte) {a b : Byte}
    (hne : a ≠ b) :
    crcOf (crcTableOf poly) (before ++ a :: after) ≠ crcOf (crcTableOf poly) (before ++ b :: after) := by
  intro h
  simp only [crcOf_crcTableOf, crcBitwise, List.foldl_append, List.foldl_cons] at h
  have hfold : Function.Injective fun r => after.foldl (crcStepBitwise poly) r := by
    clear h
    induction after with
    | nil => exact Function.injective_id
    | cons c after ih => exact ih.comp (crcStepBitwise_injective_register htop c)
  exact hne (crcStepBitwise_injective_byte htop _ (hfold h))

/-! A frame with any CRC bytes. -/

/-- R73: the frame of a payload with the CRC bytes it is given. -/
def frameWithCrc (payload : List Byte) (crcLo crcHi trailer : Byte) : List Byte :=
  0x02#8 :: 0x06#8 :: 0x01#8 :: BitVec.ofNat 8 payload.length :: (payload ++ [crcLo, crcHi, trailer])

theorem responseFrame_eq_frameWithCrc (t : CrcTable) (payload : List Byte) (trailer : Byte) :
    responseFrame t payload trailer = frameWithCrc payload (lo8 (crcOf t (responseBody payload)))
      (hi8 (crcOf t (responseBody payload))) trailer := responseFrame_eq t payload trailer

/-- R81 rows 4 and 5: only the CRC gates are left to reject it. -/
theorem gateError_frameWithCrc (oob : Byte) (t : CrcTable) {payload : List Byte} (crcLo crcHi trailer : Byte)
    (hbyte : payload.length ≤ 255) : gateError oob t (frameWithCrc payload crcLo crcHi trailer) =
      if crcLo ≠ lo8 (crcOf t (responseBody payload)) then some .crcLo
      else if crcHi ≠ hi8 (crcOf t (responseBody payload)) then some .crcHi else none := by
  have hlength : (frameWithCrc payload crcLo crcHi trailer).length = payload.length + 7 := by simp [frameWithCrc]
  have hlen : lenField oob (frameWithCrc payload crcLo crcHi trailer) = payload.length := by
    simpa [lenField, readByte, frameWithCrc] using Nat.lt_succ_of_le hbyte
  have hbody : slice (frameWithCrc payload crcLo crcHi trailer) 1 (payload.length + 3) = responseBody payload := by
    simp [slice, frameWithCrc, responseBody]
  have hlo : readByte oob (frameWithCrc payload crcLo crcHi trailer) (payload.length + 4) = crcLo := by
    simp [readByte, frameWithCrc]
  have hhi : readByte oob (frameWithCrc payload crcLo crcHi trailer) (payload.length + 5) = crcHi := by
    simp [readByte, frameWithCrc]
  simp only [gateError, hlen, hbody, hlength, hlo, hhi]
  rw [if_neg (by omega), if_neg (by simp [readByte, frameWithCrc]), if_neg (by omega)]

/-- R81, R122: CRC bytes that are not the payload's own are rejected by one of the two CRC gates. -/
theorem parseFrame_frameWithCrc_of_ne (t : CrcTable) {payload : List Byte} {crcLo crcHi : Byte} (trailer : Byte)
    (hbyte : payload.length ≤ 255) (hne : be16 crcHi crcLo ≠ crcOf t (responseBody payload)) :
    parseFrame t (frameWithCrc payload crcLo crcHi trailer) = .err .crcLo ∨
    parseFrame t (frameWithCrc payload crcLo crcHi trailer) = .err .crcHi := by
  have hgate := gateError_frameWithCrc 0x00#8 t crcLo crcHi trailer hbyte
  by_cases hlo : crcLo = lo8 (crcOf t (responseBody payload))
  · by_cases hhi : crcHi = hi8 (crcOf t (responseBody payload))
    · rw [hlo, hhi, be16_hi_lo] at hne
      exact absurd rfl hne
    · rw [if_neg (not_not.2 hlo), if_pos hhi] at hgate
      exact .inr (parseFrame_of_gate hgate)
  · rw [if_pos hlo] at hgate
    exact .inl (parseFrame_of_gate hgate)

/-! One byte of a valid frame replaced. -/

/-- R81 row 2. -/
theorem parseFrame_badHeader (t : CrcTable) {buf : List Byte} (hlong : 4 ≤ buf.length)
    (hheader : readByte 0x00#8 buf 0 ≠ 0x02#8 ∨ readByte 0x00#8 buf 1 ≠ 0x06#8 ∨ readByte 0x00#8 buf 2 ≠ 0x01#8) :
    parseFrame t buf = .err .frameHeader := by
  rw [parseFrame, parseReading_eq, if_neg (Nat.not_lt.2 hlong), if_pos hheader]

/-- R81 row 3. -/
theorem parseFrame_badSize (t : CrcTable) {buf : List Byte} (hlong : 4 ≤ buf.length)
    (hheader : readByte 0x00#8 buf 0 = 0x02#8 ∧ readByte 0x00#8 buf 1 = 0x06#8 ∧ readByte 0x00#8 buf 2 = 0x01#8)
    (hsize : buf.length ≠ lenField 0x00#8 buf + 7) : parseFrame t buf = .err .frameSize := by
  obtain ⟨h0, h1, h2⟩ := hheader
  rw [parseFrame, parseReading_eq, if_neg (Nat.not_lt.2 hlong), if_neg (by simp [h0, h1, h2]), if_pos hsize]

/-- R122: a buffer whose only possible error is DISPATCH's has passed the gates. -/
theorem exists_responseFrame_of_verdict {t : CrcTable} {buf : List Byte}
    (h : ∀ e, parseFrame t buf = .err e → e = .decodeLen) :
    ∃ payload trailer, payload.length ≤ 255 ∧ buf = responseFrame t payload trailer := by
  refine eq_responseFrame_of_gate (oob := 0x00#8) (Option.eq_none_iff_forall_ne_some.2 fun gate hgate => ?_)
  have hcode := h _ (parseFrame_of_gate hgate)
  cases gate <;> cases hcode

section Replaced
variable (t : CrcTable) {payload : List Byte} (trailer : Byte) {y : Byte}

theorem parseFrame_set_header {p : Nat} (hp : p ≤ 2) (hy : y ≠ (responseFrame t payload trailer).getD p 0x00#8) :
    parseFrame t ((responseFrame t payload trailer).set p y) = .err .frameHeader := by
  have hlong : 4 ≤ ((responseFrame t payload trailer).set p y).length := by
    rw [List.length_set, length_responseFrame]; omega
  refine parseFrame_badHeader t hlong ?_
  match p, hp with
  | 0, _ => exact .inl hy
  | 1, _ => exact .inr (.inl hy)
  | 2, _ => exact .inr (.inr hy)

theorem parseFrame_set_len (hbyte : payload.length ≤ 255)
    (hy : y ≠ (responseFrame t payload trailer).getD 3 0x00#8) :
    parseFrame t ((responseFrame t payload trailer).set 3 y) = .err .frameSize := by
  have hlength : ((responseFrame t payload trailer).set 3 y).length = payload.length + 7 := by
    rw [List.length_set, length_responseFrame]
  have hlen : lenField 0x00#8 (responseFrame t payload trailer) = payload.length :=
    lenField_responseFrame t payload trailer _ hbyte
  have hset : lenField 0x00#8 ((responseFrame t payload trailer).set 3 y) = y.toNat := rfl
  refine parseFrame_badSize t (by omega) ⟨rfl, rfl, rfl⟩ ?_
  rw [hlength, hset, ← hlen]
  exact fun h => hy (BitVec.eq_of_toNat_eq (Nat.add_right_cancel h).symm)

/-- The bytes after the header: the payload's own, and then the CRC and the trailer. -/
theorem responseFrame_set_payload {q : Nat} (hq : q < payload.length) :
    (responseFrame t payload trailer).set (q + 4) y =
      frameWithCrc (payload.set q y) (lo8 (crcOf t (responseBody payload))) (hi8 (crcOf t (responseBody payload)))
        trailer := by
  simp [responseFrame_eq, frameWithCrc, hq]

theorem responseFrame_set_crcLo : (responseFrame t payload trailer).set (payload.length + 4) y =
    frameWithCrc payload y (hi8 (crcOf t (responseBody payload))) trailer := by
  simp [responseFrame_eq, frameWithCrc]

theorem responseFrame_set_crcHi : (responseFrame t payload trailer).set (payload.length + 5) y =
    frameWithCrc payload (lo8 (crcOf t (responseBody payload))) y trailer := by
  simp [responseFrame_eq, frameWithCrc]

theorem responseFrame_set_trailer :
    (responseFrame t payload trailer).set (payload.length + 6) y = responseFrame t payload y := by
  simp [responseFrame_eq]

theorem parseFrame_set_crcLo (hbyte : payload.length ≤ 255)
    (hy : y ≠ (responseFrame t payload trailer).getD (payload.length + 4) 0x00#8) :
    parseFrame t ((responseFrame t payload trailer).set (payload.length + 4) y) = .err .crcLo ∨
    parseFrame t ((responseFrame t payload trailer).set (payload.length + 4) y) = .err .crcHi := by
  rw [responseFrame_set_crcLo]
  refine parseFrame_frameWithCrc_of_ne t trailer hbyte fun hcrc => hy ?_
  rw [← lo8_be16 (hi8 (crcOf t (responseBody payload))) y, hcrc]
  exact (readByte_responseFrame_tail t payload trailer 0x00#8 0).symm

theorem parseFrame_set_crcHi (hbyte : payload.length ≤ 255)
    (hy : y ≠ (responseFrame t payload trailer).getD (payload.length + 5) 0x00#8) :
    parseFrame t ((responseFrame t payload trailer).set (payload.length + 5) y) = .err .crcLo ∨
    parseFrame t ((responseFrame t payload trailer).set (payload.length + 5) y) = .err .crcHi := by
  rw [responseFrame_set_crcHi]
  refine parseFrame_frameWithCrc_of_ne t trailer hbyte fun hcrc => hy ?_
  rw [← hi8_be16 y (lo8 (crcOf t (responseBody payload))), hcrc]
  exact (readByte_responseFrame_tail t payload trailer 0x00#8 1).symm

end Replaced

/-- R102, R127: a payload byte replaced changes the CRC, and the frame carries the old one. -/
theorem parseFrame_set_payload {poly : Half} (htop : poly.getLsbD 15 = true) {payload : List Byte} (trailer : Byte)
    {y : Byte} (hbyte : payload.length ≤ 255) {q : Nat} (hq : q < payload.length)
    (hy : y ≠ (responseFrame (crcTableOf poly) payload trailer).getD (q + 4) 0x00#8) :
    parseFrame (crcTableOf poly) ((responseFrame (crcTableOf poly) payload trailer).set (q + 4) y) = .err .crcLo ∨
    parseFrame (crcTableOf poly) ((responseFrame (crcTableOf poly) payload trailer).set (q + 4) y) = .err .crcHi := by
  have hold : y ≠ payload[q] := by
    have hread := readByte_responseFrame_payload (crcTableOf poly) payload trailer 0x00#8 hq
    rw [readByte, readByte, List.getD_eq_getElem payload _ hq] at hread
    exact hread ▸ hy
  rw [responseFrame_set_payload _ trailer hq]
  refine parseFrame_frameWithCrc_of_ne _ trailer (by rwa [List.length_set]) ?_
  obtain ⟨before, after, hpayload, -, hset⟩ := List.exists_of_set (a' := y) hq
  have hcrc := crcOf_ne_of_byte_ne htop (0x06#8 :: 0x01#8 :: BitVec.ofNat 8 payload.length :: before) after hold.symm
  rw [be16_hi_lo, responseBody, responseBody, List.length_set, hset]
  nth_rw 2 [hpayload]
  exact hcrc

/-- R83: no test and no decoder reads the trailer. -/
theorem parseFrame_responseFrame_trailer (t : CrcTable) {payload : List Byte} (hbyte : payload.length ≤ 255)
    (trailer trailer' : Byte) :
    parseFrame t (responseFrame t payload trailer) = parseFrame t (responseFrame t payload trailer') := by
  cases payloadClass hbyte with
  | short hshort => rw [parseFrame_responseFrame_short t _ hshort, parseFrame_responseFrame_short t _ hshort]
  | totalEnergy v =>
    exact (parseFrame_responseFrame_totalEnergy t trailer v).trans
      (parseFrame_responseFrame_totalEnergy t trailer' v).symm
  | currentPower v =>
    exact (parseFrame_responseFrame_currentPower t trailer v).trans
      (parseFrame_responseFrame_currentPower t trailer' v).symm
  | wrongLen hpos hrest hlen =>
    rw [parseFrame_responseFrame_wrongLen t _ hpos hrest hlen, parseFrame_responseFrame_wrongLen t _ hpos hrest hlen]
  | unknown hpos hrest hfree =>
    rw [parseFrame_responseFrame_unknown t _ hpos hrest hfree, parseFrame_responseFrame_unknown t _ hpos hrest hfree]

theorem xor_bit_ne (x : Byte) {k : Nat} (hk : k < 8) : x ^^^ (0x01#8 <<< k) ≠ x := by
  intro h
  have hbit : 0x01#8 <<< k = 0x00#8 := by simpa using h
  interval_cases k <;> cases hbit

/-- Settles O14: the flipped bit by the byte it stands in: header, length, payload, the two CRC bytes, trailer. -/
theorem singleBitFlipsClassified : Obligations.SingleBitFlipsClassified := by
  intro buf p k hp hk hvalid _ rfl
  obtain ⟨payload, trailer, hbyte, rfl⟩ := exists_responseFrame_of_verdict hvalid
  have hflip := xor_bit_ne ((responseFrame (crcTableOf 0xA001#16) payload trailer).getD p 0x00#8) hk
  have hlen : ((responseFrame (crcTableOf 0xA001#16) payload trailer).getD 3 0x00#8).toNat = payload.length :=
    lenField_responseFrame _ payload trailer _ hbyte
  rw [hlen]
  refine ⟨fun hheader => parseFrame_set_header _ trailer hheader hflip, ?length, ?payloadAndCrc, ?trailer⟩
  case length =>
    rintro rfl
    exact parseFrame_set_len _ trailer hbyte hflip
  case payloadAndCrc =>
    intro hfrom hto
    obtain ⟨q, rfl⟩ := Nat.exists_eq_add_of_le' hfrom
    obtain hq | rfl | rfl : q < payload.length ∨ q = payload.length ∨ q = payload.length + 1 := by omega
    · exact parseFrame_set_payload (by decide) trailer hbyte hq hflip
    · exact parseFrame_set_crcLo _ trailer hbyte hflip
    · exact parseFrame_set_crcHi _ trailer hbyte hflip
  case trailer =>
    rintro rfl
    rw [responseFrame_set_trailer, parseFrame_responseFrame_trailer _ hbyte]

end Sys2Proof.Machine
end

section
/-! PROOFS. The frame codec and the CRC table, the rest: PARSE reads no byte outside its buffer (R59), the printed table
(R106), BUILD and the request rows (R120, R121, R126), and the error numbers (R230). -/

namespace Sys2Proof.Machine

/-! No byte outside the buffer (R59). -/

theorem readByte_of_lt {buf : List Byte} {i : Nat} (oob oob' : Byte) (h : i < buf.length) :
    readByte oob buf i = readByte oob' buf i := by
  rw [readByte, readByte, List.getD_eq_getElem _ _ h, List.getD_eq_getElem _ _ h]

theorem lenField_of_lt {buf : List Byte} (oob oob' : Byte) (h : 3 < buf.length) :
    lenField oob buf = lenField oob' buf := congrArg BitVec.toNat (readByte_of_lt oob oob' h)

/-- R160: DISPATCH reads a value only where the length has the value's bytes. -/
theorem dispatch_reading_eq (oob oob' : Byte) (code : Half) {len : Nat} {buf : List Byte}
    (hlen : buf.length = len + 7) : dispatch oob code len buf = dispatch oob' code len buf := by
  have hread (i : Nat) (hi : i < len + 7) : readByte oob buf i = readByte oob' buf i :=
    readByte_of_lt oob oob' (hlen ▸ hi)
  rw [dispatch_eq, dispatch_eq]
  refine ite_congr rfl (fun _ => ite_congr rfl (fun htotal => ?_) fun _ => rfl) fun _ =>
    ite_congr rfl (fun _ => ite_congr rfl (fun hpower => ?_) fun _ => rfl) fun _ => rfl
  · simp only [decodeTotalEnergy, hread 6 (by omega), hread 7 (by omega), hread 8 (by omega), hread 9 (by omega)]
  · simp only [decodeCurrentPower, hread 6 (by omega), hread 7 (by omega)]

/-- Settles O13: in PARSE's chain each test is reached only when the earlier ones have shown that its bytes are in the
buffer. -/
theorem parseNeverReadsOutside : Obligations.ParseNeverReadsOutside := by
  intro oob oob' tbl buf
  rw [parseReading_eq, parseReading_eq]
  refine ite_congr rfl (fun _ => rfl) fun hshort => ?_
  have hread (i : Nat) (hi : i < 4) : readByte oob buf i = readByte oob' buf i :=
    readByte_of_lt oob oob' (by omega)
  rw [hread 0 (by omega), hread 1 (by omega), hread 2 (by omega), lenField_of_lt oob oob' (by omega)]
  refine ite_congr rfl (fun _ => rfl) fun _ => ite_congr rfl (fun _ => rfl) fun hsize => ?_
  have hlen := not_not.1 hsize
  rw [readByte_of_lt oob oob' (by omega), readByte_of_lt oob oob' (i := lenField oob' buf + 5) (by omega),
    dispatch_reading_eq oob oob' _ hlen]
  refine ite_congr rfl (fun _ => rfl) fun _ => ite_congr rfl (fun _ => rfl) fun _ =>
    ite_congr rfl (fun _ => rfl) fun _ => ?_
  rw [codeField, codeField, readByte_of_lt oob oob' (i := 4) (by omega), readByte_of_lt oob oob' (i := 5) (by omega)]

/-! The printed table (R106). -/

/-- Settles O2: the table CRC_INIT builds, entry by entry, is the printed one. -/
theorem crcInitGivesPrintedTable : Obligations.CrcInitGivesPrintedTable := by
  have hprinted : ∀ i : Byte, printedTable[i.toNat]? = some (crcTableEntry 0xA001#16 i) := by decide +kernel
  refine fun s hnot => ⟨_, _, exec_crcInit_not_ready 0xA001#16 hnot, rfl, fun i => ?_⟩
  rw [tableRead_crcTableOf]
  exact hprinted i

/-! BUILD and the request rows. -/

/-- R126: a request's address byte is no response's. -/
theorem parseFrame_requestFrame (t t' : CrcTable) (code : Half) :
    parseFrame t (requestFrame t' code) = .err .frameHeader :=
  parseFrame_badHeader t (by simp) (.inr (.inl (by simp [requestFrame, requestBody, readByte])))

/-- Settles O11: the frame is `requestFrame`, whose bytes 5 and 6 are the halves of the CRC of bytes 1 to 4. -/
theorem builtFrameCarriesItsCrc : Obligations.BuiltFrameCarriesItsCrc := by
  intro cmd code s tbl hready hcode
  refine ⟨requestFrame tbl code, exec_build_ready hcode hready, rfl, ?_, ?_⟩
  · have hcrc := be16_hi_lo (crcOf tbl (requestBody code))
    rw [be16, BitVec.or_comm] at hcrc
    exact hcrc.symm
  · rw [exec_parse_ready _ hready, parseFrame_requestFrame]
    rfl

/-- Settles O8: the two commands have a code whatever TESTER_ID_CODE is; the worked examples compute. -/
theorem buildMakesRequestFrame : Obligations.BuildMakesRequestFrame := by
  refine ⟨fun cmd hi lo s tbl hcmd => ?_, fun s hready => ?_⟩
  · obtain h | h := hcmd
    · cases h
      exact ⟨exec_build_ready (cmd := .totalEnergy) rfl, exec_build_not_ready (cmd := .totalEnergy) rfl⟩
    · cases h
      exact ⟨exec_build_ready (cmd := .currentPower) rfl, exec_build_not_ready (cmd := .currentPower) rfl⟩
  · have htotal : requestFrame (crcTableOf 0xA001#16) (registeredCode .totalEnergy) =
        [0x02#8, 0x05#8, 0x02#8, 0x17#8, 0x05#8, 0x6E#8, 0xFF#8, 0x03#8] := by decide +kernel
    have hpower : requestFrame (crcTableOf 0xA001#16) (registeredCode .currentPower) =
        [0x02#8, 0x05#8, 0x02#8, 0x10#8, 0x09#8, 0x6C#8, 0xCA#8, 0x03#8] := by decide +kernel
    rw [exec_build_ready (cmd := .totalEnergy) rfl hready, exec_build_ready (cmd := .currentPower) rfl hready,
      htotal, hpower]
    exact ⟨rfl, rfl⟩

/-- Log 4: a request row does what BUILD does for its command. -/
theorem exec_reqTotalEnergy (s : State) : exec .reqTotalEnergy s = exec (.build .totalEnergy) s := rfl

theorem exec_reqCurrentPower (s : State) : exec .reqCurrentPower s = exec (.build .currentPower) s := rfl

theorem exec_reqTesterId (s : State) : exec .reqTesterId s = exec (.build .testerId) s := rfl

/-- Settles O10: BUILD's three cases for each row. -/
theorem requestRowsMakeTheirFrames : Obligations.RequestRowsMakeTheirFrames := by
  intro s
  simp only [exec_reqTotalEnergy, exec_reqCurrentPower, exec_reqTesterId]
  refine ⟨fun tbl hready => ⟨exec_build_ready (cmd := .totalEnergy) rfl hready,
      exec_build_ready (cmd := .currentPower) rfl hready,
      fun code hcode => exec_build_ready (cmd := .testerId) hcode hready⟩,
    fun hnot => ⟨exec_build_not_ready (cmd := .totalEnergy) rfl hnot,
      exec_build_not_ready (cmd := .currentPower) rfl hnot, fun hcode => ?_⟩, exec_build_unknown (cmd := .testerId)⟩
  obtain ⟨code, hcode⟩ := Option.ne_none_iff_exists'.1 hcode
  exact exec_build_not_ready (cmd := .testerId) hcode hnot

/-- Settles O16: both tables are closed terms. -/
theorem errorNumbersAndClasses : Obligations.ErrorNumbersAndClasses := rfl

end Sys2Proof.Machine
end

section
/-! PROOFS. What every instruction leaves and what it may send: the frames of `Ran` (R31, R33, R58), the host calls
(R240), the connectivity reports (R193) and the link state (R194), each a case analysis on its rows. -/

namespace Sys2Proof.Machine

/-! Frames. -/

/-- R31: RESET aside, at most the record of the instruction's own session is written. -/
theorem Ran.sessions_cases {i : Instr} {s t : State} (h : Ran i s t) :
    t.sessions = s.sessions ∨ (i = .reset ∧ t.sessions = s.sessions.map fun _ => Session.reset) ∨
    ∃ n r, sessionOf i = some n ∧ t.sessions = (s.setSession n r).sessions := by
  cases h with
  | refused | ignored | crcInit | returned | received | setupInUse | noTimer | reported => exact .inl rfl
  | reset => exact .inr (.inl ⟨rfl, rfl⟩)
  | setupOpen | setupFail | teardown | pollCount | pollFire | reconnectCount | reconnectOpen | reconnectFail =>
    exact .inr (.inr ⟨_, _, rfl, rfl⟩)
  | lost hi =>
    refine .inr (.inr ⟨_, _, ?_, rfl⟩)
    obtain rfl | ⟨_, rfl⟩ := hi <;> rfl

theorem session_congr {s t : State} (h : t.sessions = s.sessions) (m : Nat) : t.session m = s.session m := by
  rw [State.session, State.session, h]

/-- Settles O37: the one record an instruction writes is that of the session it is addressed to. -/
theorem otherSessionsUntouched : Obligations.OtherSessionsUntouched := by
  intro i m s t h hreset hother
  obtain hsame | ⟨rfl, -⟩ | ⟨n, r, haddr, hset⟩ := (exec_ran h).sessions_cases
  · exact session_congr hsame m
  · exact absurd rfl hreset
  · have hne : m ≠ n := fun hmn => hother (hmn ▸ haddr)
    exact (session_congr hset m).trans (session_setSession_ne r hne)

theorem Ran.cfg_inbox {i : Instr} {s t : State} (h : Ran i s t) : t.cfg = s.cfg ∧ t.inbox = s.inbox := by
  cases h <;> exact ⟨rfl, rfl⟩

theorem Ran.nSessions {i : Instr} {s t : State} (h : Ran i s t) : t.nSessions = s.nSessions := by
  obtain hsame | ⟨-, hmap⟩ | ⟨n, r, -, hset⟩ := h.sessions_cases
  · exact congrArg List.length hsame
  · exact (congrArg List.length hmap).trans (List.length_map _)
  · exact (congrArg List.length hset).trans (nSessions_setSession s n r)

/-- Settles O39: no row of `Ran` writes the configuration, and a written list of records keeps its length. -/
theorem configurationNeverWritten : Obligations.ConfigurationNeverWritten := fun _ _ _ h =>
  ⟨(exec_ran h).cfg_inbox.1, (exec_ran h).nSessions⟩

/-! What a poll sends. -/

theorem mem_shortWrite {n len : Nat} {k : Int} {o : Output} (h : o ∈ shortWrite n len k) :
    o = .diag (some n) .writeShort (.bytesWritten k) := by
  unfold shortWrite at h
  split at h
  · cases h
  · exact List.mem_singleton.1 h

/-- R183: a poll sends writes of the two requests, and diagnostics. -/
theorem mem_pollOutputs {t : CrcTable} {n : Nat} {k1 k2 : Int} {o : Output} (h : o ∈ pollOutputs t n k1 k2) :
    o = .writeCall n (requestFrame t 0x1705#16) ∨ o = .writeCall n (requestFrame t 0x1009#16) ∨
    ∃ k, o = .diag (some n) .writeShort (.bytesWritten k) := by
  simp only [pollOutputs, List.mem_append, List.mem_singleton] at h
  obtain ((rfl | h) | rfl) | h := h
  · exact .inl rfl
  · exact .inr (.inr ⟨k1, mem_shortWrite h⟩)
  · exact .inr (.inl rfl)
  · exact .inr (.inr ⟨k2, mem_shortWrite h⟩)

@[simp] theorem filter_isOpen_pollOutputs (t : CrcTable) (n : Nat) (k1 k2 : Int) :
    (pollOutputs t n k1 k2).filter isOpen = [] := by
  refine List.filter_eq_nil_iff.2 fun o h => ?_
  obtain rfl | rfl | ⟨_, rfl⟩ := mem_pollOutputs h <;> simp [isOpen]

@[simp] theorem filter_isConn_pollOutputs (t : CrcTable) (n : Nat) (k1 k2 : Int) :
    (pollOutputs t n k1 k2).filter isConn = [] := by
  refine List.filter_eq_nil_iff.2 fun o h => ?_
  obtain rfl | rfl | ⟨_, rfl⟩ := mem_pollOutputs h <;> simp [isConn]

@[simp] theorem filter_isWrite_shortWrite (n len : Nat) (k : Int) : (shortWrite n len k).filter isWrite = [] := by
  refine List.filter_eq_nil_iff.2 fun o h => ?_
  simp [mem_shortWrite h, isWrite]

/-- R183: whatever the writes return, a poll makes two. -/
theorem length_filter_isWrite_pollOutputs (t : CrcTable) (n : Nat) (k1 k2 : Int) :
    ((pollOutputs t n k1 k2).filter isWrite).length = 2 := by
  simp [pollOutputs, List.filter_cons, isWrite]

/-! Host calls. -/

/-- R240: the condition under which the instruction `i` may make the host call `o` in `s`; none for other outputs. -/
def MayEmit (i : Instr) (s : State) : Output → Prop
  | .flushCall _ => False
  | .closeCall m => i = .teardown m ∧ s.connected m = true
  | .openCall m x => (∃ iface, i = .setup m iface ∧ x = some iface) ∨
      (i = .tick m ∧ (s.session m).reconnect.armed = true ∧ x = (s.session m).iface)
  | .writeCall m f => ((∃ iface, i = .setup m iface) ∨ i = .tick m) ∧
      ∃ tbl, s.Ready tbl ∧ (f = requestFrame tbl 0x1705#16 ∨ f = requestFrame tbl 0x1009#16)
  | _ => True

theorem mayEmit_pollOutputs {i : Instr} {s : State} {t : CrcTable} {n : Nat} {k1 k2 : Int}
    (hi : (∃ iface, i = .setup n iface) ∨ i = .tick n) (htable : s.readyTable = some t) :
    ∀ o ∈ pollOutputs t n k1 k2, MayEmit i s o := by
  intro o ho
  have hready := readyTable_eq_some.1 htable
  obtain rfl | rfl | ⟨_, rfl⟩ := mem_pollOutputs ho
  · exact ⟨hi, t, hready, .inl rfl⟩
  · exact ⟨hi, t, hready, .inr rfl⟩
  · trivial

theorem mayEmit_received {i : Instr} {s : State} {n : Nat} {new : List Output} (h : Received n new) :
    (∀ o ∈ new, MayEmit i s o) ∧ new.filter isOpen = [] ∧ new.filter isConn = [] := by
  obtain rfl | ⟨_, _, rfl⟩ | ⟨_, rfl⟩ | ⟨_, rfl⟩ := h <;> simp [MayEmit, isOpen, isConn]

theorem mayEmit_returned {i : Instr} {s : State} {o : Output}
    (h : (∃ v, o = .returnCrc v) ∨ (∃ f, o = .returnFrame f) ∨ ∃ v, o = .returnVerdict v) :
    MayEmit i s o ∧ isOpen o = false ∧ isConn o = false := by
  obtain ⟨_, rfl⟩ | ⟨_, rfl⟩ | ⟨_, rfl⟩ := h <;> exact ⟨trivial, rfl, rfl⟩

/-- R240: each row sends what the instruction may send, with at most one `open`. -/
theorem Ran.hostCalls {i : Instr} {s t : State} (h : Ran i s t) : ∃ new, t.outbox = s.outbox ++ new ∧
    (∀ o ∈ new, MayEmit i s o) ∧ (new.filter isOpen).length ≤ 1 := by
  cases h with
  | refused | ignored | reset | crcInit | pollCount | reconnectCount | noTimer =>
    exact ⟨[], (List.append_nil _).symm, by simp⟩
  | returned _ _ _ ho =>
    obtain ⟨hmay, hopen, -⟩ := mayEmit_returned ho
    exact ⟨_, rfl, by simpa using hmay, by simp [hopen]⟩
  | received _ _ _ _ _ ho =>
    obtain ⟨hmay, hopen, -⟩ := mayEmit_received ho
    exact ⟨_, rfl, hmay, by simp [hopen]⟩
  | setupInUse | reported | lost => exact ⟨_, rfl, by simp [MayEmit], by simp [isOpen]⟩
  | setupOpen _ _ _ htable =>
    refine ⟨_, rfl, ?_, by simp [List.filter_cons, isOpen]⟩
    simp only [List.forall_mem_cons]
    exact ⟨.inl ⟨_, rfl, rfl⟩, trivial, mayEmit_pollOutputs (.inl ⟨_, rfl⟩) htable⟩
  | setupFail => exact ⟨_, rfl, by simp [MayEmit], by simp [List.filter_cons, isOpen]⟩
  | @teardown n _ hlive =>
    refine ⟨_, rfl, ?_⟩
    split
    · next hlink => simp [MayEmit, State.connected, hlive.2, hlink, isOpen]
    · simp
  | pollFire _ _ _ htable => exact ⟨_, rfl, mayEmit_pollOutputs (.inr rfl) htable, by simp⟩
  | reconnectOpen _ _ hrec _ _ htable =>
    refine ⟨_, rfl, ?_, by simp [List.filter_cons, isOpen]⟩
    simp only [List.forall_mem_cons]
    exact ⟨.inr ⟨rfl, hrec, rfl⟩, trivial, mayEmit_pollOutputs (.inr rfl) htable⟩
  | reconnectFail _ _ hrec => exact ⟨_, rfl, by simp [MayEmit, hrec], by simp [List.filter_cons, isOpen]⟩

/-- Settles O41: the outputs of a step are determined by the two outboxes. -/
theorem hostCallsOnlyWhereStated : Obligations.HostCallsOnlyWhereStated := by
  intro i s t new h hnew
  obtain ⟨new', hnew', hmay, hopen⟩ := (exec_ran h).hostCalls
  obtain rfl := List.append_cancel_left (hnew.symm.trans hnew')
  exact ⟨fun m => hmay (.flushCall m), fun m => hmay (.closeCall m), fun m x => hmay (.openCall m x), hopen,
    fun m f => hmay (.writeCall m f)⟩

/-- Settles O40: waiting and refusing an input send nothing, and a row of `Ran` appends. -/
theorem outputsFollowInOrder : Obligations.OutputsFollowInOrder := by
  intro s t h
  obtain ⟨-, ⟨hinbox, rfl⟩ | ⟨input, rest, e, hinbox, rfl⟩ | ⟨input, rest, i, hinbox, hran⟩⟩ := step_cases h
  · exact ⟨by rw [hinbox, List.tail_nil], [], (List.append_nil _).symm⟩
  · exact ⟨by rw [hinbox]; rfl, [], (List.append_nil _).symm⟩
  · obtain ⟨new, hnew, -⟩ := hran.hostCalls
    exact ⟨by rw [hran.cfg_inbox.2, hinbox]; rfl, new, hnew⟩

/-! The link state. -/

theorem written_of_link_ne {s t : State} {n m : Nat} {r : Session} (h : (t.session m).link ≠ (s.session m).link)
    (hset : t.sessions = (s.setSession n r).sessions) (hn : n < s.nSessions) :
    m = n ∧ r.link ≠ (s.session n).link := by
  rw [session_congr hset, session_setSession r hn] at h
  split at h
  · next hmn => exact ⟨hmn, hmn ▸ h⟩
  · exact absurd rfl h

/-- Settles O43: every other row of `Ran` leaves the records, or writes one with the link it had. -/
theorem linkFollowsTransportAlone : Obligations.LinkFollowsTransportAlone := by
  intro i m s t h hlink
  cases exec_ran h with
  | refused | ignored | crcInit | returned | received | setupInUse | noTimer | reported => exact absurd rfl hlink
  | setupFail hn => exact absurd rfl (written_of_link_ne hlink rfl hn).2
  | pollCount hlive | pollFire hlive | reconnectCount hlive | reconnectFail hlive =>
    exact absurd rfl (written_of_link_ne hlink rfl hlive.1).2
  | reset => exact .inl rfl
  | setupOpen hn _ _ _ hopen =>
    obtain ⟨rfl, -⟩ := written_of_link_ne hlink rfl hn
    exact .inr (.inl ⟨_, rfl, hopen⟩)
  | reconnectOpen hlive _ hrec _ hopen =>
    obtain ⟨rfl, -⟩ := written_of_link_ne hlink rfl hlive.1
    exact .inr (.inr (.inl ⟨rfl, hrec, hopen⟩))
  | lost hi hlive =>
    obtain ⟨rfl, -⟩ := written_of_link_ne hlink rfl hlive.1
    obtain rfl | ⟨sig, rfl⟩ := hi
    · exact .inr (.inr (.inr (.inr (.inl rfl))))
    · exact .inr (.inr (.inr (.inl ⟨sig, rfl⟩)))
  | teardown hlive =>
    obtain ⟨rfl, -⟩ := written_of_link_ne hlink rfl hlive.1
    exact .inr (.inr (.inr (.inr (.inr rfl))))

/-! Connectivity reports. -/

/-- R193: what the reports in `new` say of a step of `i` from `s` to `t`. -/
def ReportsLevel (i : Instr) (s t : State) (new : List Output) : Prop :=
  (∀ m b, Output.conn m b ∈ new → b = t.connected m ∧
    (((s.session m).active = false ∧ (t.session m).active = true ∧ ∃ iface, i = .setup m iface) ∨
      ((s.session m).active = true ∧ (t.session m).active = true ∧ (t.session m).link ≠ (s.session m).link))) ∧
  (∀ m, (t.session m).active = true →
    ((s.session m).active = false ∨ (t.session m).link ≠ (s.session m).link) →
    Output.conn m (t.connected m) ∈ new) ∧
  (new.filter isConn).length ≤ 1

theorem conn_mem_iff {m : Nat} {b : Bool} {new : List Output} :
    Output.conn m b ∈ new ↔ Output.conn m b ∈ new.filter isConn := by simp [List.mem_filter, isConn]

/-- No report is due where no session is created and no active session's link changes. -/
theorem reportsLevel_silent {i : Instr} {s t : State} {new : List Output} (hnone : new.filter isConn = [])
    (hsame : ∀ m, (t.session m).active = true →
      (s.session m).active = true ∧ (t.session m).link = (s.session m).link) : ReportsLevel i s t new := by
  refine ⟨fun m b hmem => ?_, fun m hactive hchange => ?_, by simp [hnone]⟩
  · rw [conn_mem_iff, hnone] at hmem
    cases hmem
  · obtain ⟨hwas, hlink⟩ := hsame m hactive
    rw [hwas] at hchange
    exact absurd hlink (hchange.resolve_left nofun)

/-- One report is due where one record is written, by a SETUP that creates it or with another link. -/
theorem reportsLevel_one {i : Instr} {s t : State} {n : Nat} {r : Session} {new : List Output} (hn : n < s.nSessions)
    (hset : t.sessions = (s.setSession n r).sessions) (hactive : r.active = true)
    (hone : new.filter isConn = [.conn n (r.link == .connected)])
    (hchange : ((s.session n).active = false ∧ ∃ iface, i = .setup n iface) ∨
      ((s.session n).active = true ∧ r.link ≠ (s.session n).link)) : ReportsLevel i s t new := by
  have hsession (m : Nat) : t.session m = if m = n then r else s.session m :=
    (session_congr hset m).trans (session_setSession r hn m)
  have hown : t.session n = r := by rw [hsession, if_pos rfl]
  have hlevel : t.connected n = (r.link == .connected) := by rw [State.connected, hown, hactive, Bool.true_and]
  refine ⟨fun m b hmem => ?_, fun m hlive hdue => ?_, by simp [hone]⟩
  · rw [conn_mem_iff, hone, List.mem_singleton] at hmem
    cases hmem
    rw [hown]
    exact ⟨hlevel.symm, hchange.imp (fun h => ⟨h.1, hactive, h.2⟩) fun h => ⟨h.1, hactive, h.2⟩⟩
  · by_cases hmn : m = n
    · rw [hmn, conn_mem_iff, hone, hlevel]
      exact List.mem_singleton_self _
    · rw [hsession, if_neg hmn] at hlive hdue
      simp [hlive] at hdue

/-- Nor is one due where the record written is inactive, or was active and keeps its link. -/
theorem active_link_setSession {s : State} {n : Nat} {r : Session} (hn : n < s.nSessions)
    (hkeep : r.active = true → (s.session n).active = true ∧ r.link = (s.session n).link) (m : Nat)
    (hactive : ((s.setSession n r).session m).active = true) :
    (s.session m).active = true ∧ ((s.setSession n r).session m).link = (s.session m).link := by
  rw [session_setSession r hn] at hactive ⊢
  split at hactive
  · next hmn => rw [if_pos hmn, hmn]; exact hkeep hactive
  · next hmn => rw [if_neg hmn]; exact ⟨hactive, rfl⟩

theorem session_of_map_reset {s t : State} (h : t.sessions = s.sessions.map fun _ => Session.reset) (m : Nat) :
    t.session m = Session.reset := by
  rw [State.session, h, List.map_const', List.getD_eq_getElem?_getD, List.getElem?_replicate]
  split <;> rfl

/-- R193: the reports of each row. -/
theorem Ran.reportsLevel {i : Instr} {s t : State} (h : Ran i s t) (hinv : s.Inv) :
    ∃ new, t.outbox = s.outbox ++ new ∧ ReportsLevel i s t new := by
  cases h with
  | refused | ignored | crcInit | noTimer =>
    exact ⟨[], (List.append_nil _).symm, reportsLevel_silent rfl fun _ hactive => ⟨hactive, rfl⟩⟩
  | reset =>
    refine ⟨[], (List.append_nil _).symm, reportsLevel_silent rfl fun m hactive => ?_⟩
    rw [session_of_map_reset rfl] at hactive
    cases hactive
  | returned _ _ _ ho =>
    obtain ⟨-, -, hconn⟩ := mayEmit_returned (i := i) (s := s) ho
    exact ⟨_, rfl, reportsLevel_silent (by simp [hconn]) fun _ hactive => ⟨hactive, rfl⟩⟩
  | received _ _ _ _ _ ho =>
    obtain ⟨-, -, hconn⟩ := mayEmit_received (i := i) (s := s) ho
    exact ⟨_, rfl, reportsLevel_silent hconn fun _ hactive => ⟨hactive, rfl⟩⟩
  | setupInUse | reported => exact ⟨_, rfl, reportsLevel_silent rfl fun _ hactive => ⟨hactive, rfl⟩⟩
  | @setupOpen n iface tbl _ hn hinactive =>
    refine ⟨_, rfl, reportsLevel_one hn rfl rfl ?_ (.inl ⟨hinactive, iface, rfl⟩)⟩
    simp [List.filter_cons, isConn]
  | @setupFail n iface tbl _ hn hinactive =>
    refine ⟨_, rfl, reportsLevel_one hn rfl rfl ?_ (.inl ⟨hinactive, iface, rfl⟩)⟩
    rw [hinv.session_eq_reset hn hinactive]
    rfl
  | @teardown n _ hlive =>
    refine ⟨_, rfl, reportsLevel_silent ?_ (active_link_setSession hlive.1 nofun)⟩
    split <;> rfl
  | pollCount hlive | reconnectCount hlive =>
    exact ⟨[], (List.append_nil _).symm,
      reportsLevel_silent rfl (active_link_setSession hlive.1 fun _ => ⟨hlive.2, rfl⟩)⟩
  | pollFire hlive =>
    exact ⟨_, rfl, reportsLevel_silent (filter_isConn_pollOutputs ..)
      (active_link_setSession hlive.1 fun _ => ⟨hlive.2, rfl⟩)⟩
  | reconnectFail hlive =>
    exact ⟨_, rfl, reportsLevel_silent rfl (active_link_setSession hlive.1 fun _ => ⟨hlive.2, rfl⟩)⟩
  | @reconnectOpen n tbl _ hlive _ hrec =>
    refine ⟨_, rfl, reportsLevel_one hlive.1 rfl hlive.2 ?_ (.inr ⟨hlive.2, ?_⟩)⟩
    · simp [List.filter_cons, isConn]
    · obtain ⟨iface, rem, hr, -⟩ := (hinv.session hlive.1).eq_waitingOn_of_reconnect hrec
      rw [hr]
      nofun
  | lost _ hlive hlink =>
    refine ⟨_, rfl, reportsLevel_one hlive.1 rfl hlive.2 rfl (.inr ⟨hlive.2, ?_⟩)⟩
    rw [hlink]
    nofun

/-- Settles O42: the outputs of a step are determined by the two outboxes. -/
theorem connReportsMatchLevel : Obligations.ConnReportsMatchLevel := by
  intro i s t new hinv h hnew
  obtain ⟨new', hnew', hreports⟩ := (exec_ran h).reportsLevel hinv
  obtain rfl := List.append_cancel_left (hnew.symm.trans hnew')
  exact hreports

end Sys2Proof.Machine
end

section
/-! PROOFS. Every step goes on (R231), what is refused and why (R233), and the rows of one session that need nothing
but its own record: RESET (R260), the response rows (R81), and the records an event reads (R31). -/

namespace Sys2Proof.Machine

/-! Every step answers a next state. -/

theorem exists_finish_eq_next (s : State) (act : Except RefuseReason State) : ∃ t, finish s act = .next t := by
  cases act with
  | ok t => exact ⟨_, finish_ok s t⟩
  | error r => exact ⟨_, finish_error s r⟩

/-- R231: every arm of `exec` ends in `finish`. -/
theorem exists_exec_eq_next (i : Instr) (s : State) : ∃ t, exec i s = .next t := by
  cases i with
  | reset => exact ⟨_, rfl⟩
  | _ => exact exists_finish_eq_next s _

/-- Settles O34: waiting, running an instruction and refusing an input all answer a next state. -/
theorem everyStepContinues : Obligations.EveryStepContinues := by
  intro s hlegal
  cases hinbox : s.inbox with
  | nil => exact ⟨s, step_of_inbox_nil hlegal hinbox⟩
  | cons input rest =>
    cases hdecode : decode s.wireContext input with
    | error e => exact ⟨_, step_of_decode_error hlegal hinbox hdecode⟩
    | ok i =>
      rw [step_of_decode_ok hlegal hinbox hdecode]
      exact exists_exec_eq_next i _

/-! Refusals. -/

/-- Settles O28: SETUP by its own first check, everything else by CHECK. -/
theorem badSessionIsRefused : Obligations.BadSessionIsRefused := by
  intro n i s hge haddr
  by_cases hsetup : ∃ iface, i = .setup n iface
  · obtain ⟨iface, rfl⟩ := hsetup
    exact exec_setup_badSession iface hge
  · exact (checksSession_of_sessionOf s haddr fun iface hi => hsetup ⟨iface, hi⟩).1 hge

/-- R20: with the CRC invariant, no table in use means not ready. -/
theorem State.Inv.not_ready {s : State} (hinv : s.Inv) (h : s.readyTable = none) : s.crcReady = false := by
  obtain ⟨hnot, -⟩ | ⟨hready, hpoly, htable⟩ := hinv.1
  · exact hnot
  · obtain ⟨poly, hpoly⟩ := Option.ne_none_iff_exists'.1 hpoly
    rw [hpoly] at htable
    rw [readyTable_of_ready hready htable] at h
    cases h

theorem State.Inv.readyTable_ne_none_of_live {s : State} (hinv : s.Inv) {n : Nat} (hlive : s.Live n) :
    s.readyTable ≠ none := fun h => by
  have hready := hinv.crcReady_of_live hlive
  rw [hinv.not_ready h] at hready
  cases hready

/-- R233: the rows of the table of refusals; the two rows of `RefusedFor` that concern a live session without a table
are ruled out by the invariants. -/
theorem RefusedFor.reason {i : Instr} {s : State} {r : RefuseReason} (h : RefusedFor i s r) (hinv : s.Inv) :
    (r = .crcNotReady ∧ s.crcReady = false ∧
      ((∃ bytes, i = .crcCompute bytes) ∨ (∃ cmd, i = .build cmd) ∨ (∃ buf, i = .parse buf) ∨
        (∃ n iface, i = .setup n iface) ∨ i = .reqTotalEnergy ∨ i = .reqCurrentPower ∨ i = .reqTesterId)) ∨
    (r = .crcReinit ∧ s.crcReady = true ∧ ∃ poly, i = .crcInit poly) ∨
    (r = .testerIdUnknown ∧ s.cfg.testerIdCode = none ∧ (i = .build .testerId ∨ i = .reqTesterId)) ∨
    (r = .setupActive ∧ ∃ n iface, i = .setup n iface ∧ (s.session n).active = true) ∨
    (r = .badSession ∧ ∃ n, sessionOf i = some n ∧ s.nSessions ≤ n) := by
  cases h with
  | badSession haddr hge => exact .inr (.inr (.inr (.inr ⟨rfl, _, haddr, hge⟩)))
  | reinit hready => exact .inr (.inl ⟨rfl, hready, _, rfl⟩)
  | compute htable => exact .inl ⟨rfl, hinv.not_ready htable, .inl ⟨_, rfl⟩⟩
  | parse htable => exact .inl ⟨rfl, hinv.not_ready htable, .inr (.inr (.inl ⟨_, rfl⟩))⟩
  | setupNotReady htable => exact .inl ⟨rfl, hinv.not_ready htable, .inr (.inr (.inr (.inl ⟨_, _, rfl⟩)))⟩
  | setupActive hactive => exact .inr (.inr (.inr (.inl ⟨rfl, _, _, rfl, hactive⟩)))
  | buildUnknown hi hcode => exact .inr (.inr (.inl ⟨rfl, hcode, hi⟩))
  | buildNotReady hi htable =>
    refine .inl ⟨rfl, hinv.not_ready htable, .inr ?_⟩
    exact hi.imp id fun hrow => .inr (.inr hrow)
  | tick hlive htable => exact absurd htable (hinv.readyTable_ne_none_of_live hlive)
  | received _ hlive htable => exact absurd htable (hinv.readyTable_ne_none_of_live hlive)

theorem exists_exec_build_refused (cmd : CommandId) {s : State} (h : s.crcReady = false) :
    ∃ r, exec (.build cmd) s = .next (s.refuse r) := by
  obtain hexec | ⟨-, hexec⟩ := exec_build_not_ready_cases cmd h
  · exact ⟨_, hexec⟩
  · exact ⟨_, hexec⟩

/-- R233: CRC_NOT_READY's row of the table, with the request rows (log 4). -/
theorem exists_exec_refused_of_not_ready {i : Instr} {s : State} (hnot : s.crcReady = false)
    (hi : (∃ bytes, i = .crcCompute bytes) ∨ (∃ cmd, i = .build cmd) ∨ (∃ buf, i = .parse buf) ∨
      (∃ n iface, i = .setup n iface) ∨ i = .reqTotalEnergy ∨ i = .reqCurrentPower ∨ i = .reqTesterId) :
    ∃ r, exec i s = .next (s.refuse r) := by
  obtain ⟨bytes, rfl⟩ | ⟨cmd, rfl⟩ | ⟨buf, rfl⟩ | ⟨n, iface, rfl⟩ | rfl | rfl | rfl := hi
  · exact ⟨_, exec_crcCompute_not_ready bytes hnot⟩
  · exact exists_exec_build_refused cmd hnot
  · exact ⟨_, exec_parse_not_ready buf hnot⟩
  · obtain hlt | hge := Nat.lt_or_ge n s.nSessions
    · exact ⟨_, exec_setup_not_ready iface hlt hnot⟩
    · exact ⟨_, exec_setup_badSession iface hge⟩
  · exact exists_exec_build_refused .totalEnergy hnot
  · exact exists_exec_build_refused .currentPower hnot
  · exact exists_exec_build_refused .testerId hnot

/-- R180: SETUP of an active session is refused whether or not there is a table. -/
theorem exists_exec_setup_refused_of_active {n : Nat} (iface : InterfaceId) {s : State}
    (hactive : (s.session n).active = true) : ∃ r, exec (.setup n iface) s = .next (s.refuse r) := by
  obtain hlt | hge := Nat.lt_or_ge n s.nSessions
  · rw [exec, execSetup, onSession_of_lt _ hlt]
    cases s.readyTable with
    | none => exact ⟨_, finish_error s _⟩
    | some t => exact ⟨_, by rw [if_pos hactive, finish_error]⟩
  · exact ⟨_, exec_setup_badSession iface hge⟩

/-- R33: what a legal configuration excludes. -/
theorem legalConfig_eq_false {s : State} (h : s.cfg.pollInterval = 0 ∨ s.cfg.reconnectInterval = 0 ∨
    s.cfg.testerIdCode = some 0x1705#16 ∨ s.cfg.testerIdCode = some 0x1009#16) : s.legalConfig = false := by
  refine Bool.eq_false_iff.2 fun hlegal => ?_
  obtain ⟨hpoll, hrec⟩ := one_le_intervals hlegal
  obtain h | h | h | h := h
  · omega
  · omega
  · cases registryFind_testerIdCode hlegal h
  · cases registryFind_testerIdCode hlegal h

/-- Settles O35: a refused outcome is `Ran`'s refused row; the converse is the checks of each instruction; and `step`
has nothing for an illegal configuration. -/
theorem refusalsWriteOnlyTheMark : Obligations.RefusalsWriteOnlyTheMark := by
  refine ⟨fun i s t r hinv h houtcome => ?_, fun i s hlisted => ?_, fun s hcfg =>
    step_of_illegal (legalConfig_eq_false hcfg)⟩
  · cases exec_ran h with
    | refused hfor => cases houtcome; exact ⟨rfl, hfor.reason hinv⟩
    | _ => cases houtcome
  · obtain ⟨hnot, hi⟩ | ⟨hready, poly, rfl⟩ | ⟨hcode, rfl | rfl⟩ | ⟨n, iface, rfl, hactive⟩ | ⟨n, haddr, hge⟩ := hlisted
    · exact exists_exec_refused_of_not_ready hnot hi
    · exact ⟨_, exec_crcInit_ready poly hready⟩
    · exact ⟨_, exec_build_unknown (cmd := .testerId) hcode⟩
    · exact ⟨_, exec_build_unknown (cmd := .testerId) hcode⟩
    · exact exists_exec_setup_refused_of_active iface hactive
    · exact ⟨_, badSessionIsRefused n i s hge haddr⟩

/-! RESET. -/

/-- Settles O33: power-on's records are all reset records, and RESET writes as many of them as there were. -/
theorem resetRestoresEveryField : Obligations.ResetRestoresEveryField := by
  refine ⟨⟨rfl, rfl, rfl, rfl, rfl, fun r hr => List.eq_of_mem_replicate hr⟩, fun s => ?_⟩
  rw [exec, execReset, finish_ok, List.map_const']
  rfl

/-! The response rows on a live session. -/

theorem onActiveSession_withTable_live {n : Nat} {s : State} {t : CrcTable} (k : CrcTable → State) (hlive : s.Live n)
    (hready : s.Ready t) : onActiveSession n s (withTable s k) = .next { k t with outcome := .done } := by
  rw [onActiveSession_of_active _ hlive.1 hlive.2, withTable_some k (readyTable_eq_some.2 hready), finish_ok]

/-- Settles O21: each row's action runs, with the table in use. -/
theorem responseRowsHaveTheirEffect : Obligations.ResponseRowsHaveTheirEffect := by
  intro n trailer s tbl hlive hready
  have hrow (k : CrcTable → State) := onActiveSession_withTable_live k hlive hready
  refine ⟨fun v => hrow _, fun v => hrow _, fun payload => hrow _, fun c rest => hrow _, fun code rest => hrow _,
    fun gate buf => (hrow _).trans ?_⟩
  cases gate <;> rfl

end Sys2Proof.Machine
end

section
/-! PROOFS. Ticks in a row (R239, R267): a timer counts down in silence and fires at 0, over and over; and two SETUPs
for one interface (R271). -/

namespace Sys2Proof.Machine

theorem runInstrs_append {xs : List Instr} {s t : State} (ys : List Instr) (h : runInstrs xs s = .next t) :
    runInstrs (xs ++ ys) s = runInstrs ys t := by
  induction xs generalizing s with
  | nil => cases h; rfl
  | cons i xs ih =>
    obtain ⟨u, hu⟩ := exists_exec_eq_next i s
    rw [runInstrs_cons xs hu] at h
    rw [List.cons_append, runInstrs_cons _ hu, ih h]

theorem runInstrs_singleton (i : Instr) (s : State) : runInstrs [i] s = exec i s := by
  obtain ⟨u, hu⟩ := exists_exec_eq_next i s
  rw [runInstrs_cons [] hu, runInstrs_nil, hu]

theorem setSession_session (s : State) (n : Nat) : s.setSession n (s.session n) = s := by
  have hset : s.sessions.set n (s.sessions.getD n Session.reset) = s.sessions := by
    obtain hlt | hge := Nat.lt_or_ge n s.sessions.length
    · rw [List.getD_eq_getElem _ _ hlt, List.set_getElem_self]
    · exact List.set_eq_of_length_le hge
  rw [State.setSession, State.session, hset]

theorem live_setSession {s : State} {n : Nat} {r : Session} (hn : n < s.nSessions) (hactive : r.active = true) :
    (s.setSession n r).Live n :=
  ⟨by rwa [nSessions_setSession], by rwa [session_setSession_same r hn]⟩

/-! A timer counts. `record rem` is the session's record while its timer shows `rem`. -/

/-- R185: ticks that only count change nothing but the count, and emit nothing. -/
theorem run_ticks_count {record : Nat → Session} {n k : Nat} {s : State}
    (hactive : ∀ rem, (record rem).active = true)
    (hcount : ∀ (u : State) (rem : Nat), u.Live n → u.session n = record (rem + 2) →
      exec (.tick n) u = .next { u.setSession n (record (rem + 1)) with outcome := .done })
    (hn : n < s.nSessions) (hrecord : s.session n = record (k + 1)) {j : Nat} (hj : j ≤ k) :
    ∃ o, runInstrs (List.replicate j (.tick n)) s =
      .next { s.setSession n (record (k + 1 - j)) with outcome := o } := by
  induction j with
  | zero => exact ⟨s.outcome, by rw [Nat.sub_zero, ← hrecord, setSession_session]; rfl⟩
  | succ j ih =>
    obtain ⟨o, hrun⟩ := ih (Nat.le_of_succ_le hj)
    obtain ⟨rem, hrem⟩ : ∃ rem, k + 1 - j = rem + 2 := ⟨k - j - 1, by omega⟩
    have hleft : k + 1 - (j + 1) = rem + 1 := by omega
    rw [hrem] at hrun
    have htick := hcount { s.setSession n (record (rem + 2)) with outcome := o } rem
      (live_setSession hn (hactive _)) (session_setSession_same _ hn)
    refine ⟨.done, ?_⟩
    rw [List.replicate_succ', runInstrs_append _ hrun, runInstrs_singleton, htick, hleft]
    exact congrArg (fun u : State => Host.Outcome.next { u with outcome := .done }) (setSession_setSession s n _ _)

/-! The poll timer. -/

/-- A record with its poll timer armed at `rem`. -/
abbrev Session.polling (r : Session) (rem : Nat) : Session := { r with poll := ⟨true, rem⟩ }

theorem exec_tick_poll_count {n rem : Nat} {r : Session} {u : State} (hlive : u.Live n)
    (hrecord : u.session n = r.polling (rem + 2)) :
    exec (.tick n) u = .next { u.setSession n (r.polling (rem + 1)) with outcome := .done } := by
  rw [exec_tick_live hlive, tickTimers_poll_count (by rw [hrecord])
    (by rw [hrecord]; exact Nat.one_lt_succ_succ rem), hrecord]
  rfl

theorem run_ticks_poll_count {n k : Nat} {s : State} (hlive : s.Live n) (hpoll : (s.session n).poll = ⟨true, k + 1⟩)
    {j : Nat} (hj : j ≤ k) : ∃ o, runInstrs (List.replicate j (.tick n)) s =
      .next { s.setSession n ((s.session n).polling (k + 1 - j)) with outcome := o } :=
  run_ticks_count (record := (s.session n).polling) (fun _ => hlive.2) (fun _ _ => exec_tick_poll_count) hlive.1
    (by rw [Session.polling, ← hpoll]) hj

/-- The state a poll of session `n` leaves. -/
def State.afterPoll (s : State) (n : Nat) (t : CrcTable) : State :=
  { s.afterWrite.afterWrite with
    sessions := s.sessions.set n ((s.session n).polling s.cfg.pollInterval)
    outbox := s.outbox ++ pollOutputs t n s.nextWrite s.afterWrite.nextWrite
    outcome := .done }

/-- R186, R239: the tick that brings the count to 0 polls and starts the whole interval again. -/
theorem run_ticks_poll_fire {n k : Nat} {s : State} {tbl : CrcTable} (hlive : s.Live n) (hready : s.Ready tbl)
    (hpoll : (s.session n).poll = ⟨true, k + 1⟩) :
    runInstrs (List.replicate (k + 1) (.tick n)) s = .next (s.afterPoll n tbl) := by
  obtain ⟨o, hrun⟩ := run_ticks_poll_count hlive hpoll (Nat.le_refl k)
  rw [Nat.add_sub_cancel_left] at hrun
  let u : State := { s.setSession n ((s.session n).polling 1) with outcome := o }
  have hu : u.session n = (s.session n).polling 1 := session_setSession_same _ hlive.1
  have hlive' : u.Live n := live_setSession hlive.1 hlive.2
  rw [List.replicate_succ', runInstrs_append _ hrun, runInstrs_singleton]
  change exec (.tick n) u = _
  rw [exec_tick_live hlive', tickTimers_poll_fire hlive'.1 (readyTable_eq_some.2 hready) (by rw [hu]) (by rw [hu]),
    finish_ok, hu]
  simp [u, State.afterPoll, State.setSession, State.afterWrite, State.nextWrite]

theorem session_afterPoll {n : Nat} {s : State} (t : CrcTable) (hn : n < s.nSessions) :
    (s.afterPoll n t).session n = (s.session n).polling s.cfg.pollInterval := session_setSession_same _ hn

/-- R239: over `m` whole intervals. -/
theorem run_ticks_poll_intervals {n : Nat} {tbl : CrcTable} (m : Nat) {s : State} (hlive : s.Live n)
    (hready : s.Ready tbl) (hpos : 1 ≤ s.cfg.pollInterval) (hpoll : (s.session n).poll = ⟨true, s.cfg.pollInterval⟩) :
    ∃ t new, runInstrs (List.replicate (m * s.cfg.pollInterval) (.tick n)) s = .next t ∧
      t.outbox = s.outbox ++ new ∧ (new.filter isWrite).length = 2 * m ∧ t.session n = s.session n := by
  induction m generalizing s with
  | zero => exact ⟨s, [], by rw [Nat.zero_mul]; rfl, (List.append_nil _).symm, rfl, rfl⟩
  | succ m ih =>
    obtain ⟨k, hk⟩ := Nat.exists_eq_add_of_le' hpos
    have hfire := run_ticks_poll_fire hlive hready (hk ▸ hpoll)
    have hsession : (s.afterPoll n tbl).session n = s.session n := by
      rw [session_afterPoll tbl hlive.1, Session.polling, ← hpoll]
    have hlive' : (s.afterPoll n tbl).Live n :=
      ⟨by simpa [State.afterPoll, State.nSessions] using hlive.1, by rw [hsession]; exact hlive.2⟩
    obtain ⟨t, new, hrun, hout, hwrites, ht⟩ := ih hlive' hready hpos (by rw [hsession]; exact hpoll)
    refine ⟨t, pollOutputs tbl n s.nextWrite s.afterWrite.nextWrite ++ new, ?_, ?_, ?_, ht.trans hsession⟩
    · rw [Nat.succ_mul, Nat.add_comm, List.replicate_add]
      rw [← hk] at hfire
      rw [runInstrs_append _ hfire]
      exact hrun
    · rw [hout, ← List.append_assoc]
      rfl
    · rw [List.filter_append, List.length_append, length_filter_isWrite_pollOutputs, hwrites]
      omega

/-- Settles O30: the count, the tick that fires, and the induction over intervals. -/
theorem pollsEveryInterval : Obligations.PollsEveryInterval := by
  refine ⟨?_, fun n m s tbl hlive hready hpos hpoll => run_ticks_poll_intervals m hlive hready hpos hpoll⟩
  rintro n k s _ tbl hlive hready rfl hpoll
  refine ⟨fun j hj => ?_, _, run_ticks_poll_fire hlive hready hpoll, rfl, session_afterPoll tbl hlive.1⟩
  obtain ⟨o, hrun⟩ := run_ticks_poll_count hlive hpoll hj
  exact ⟨_, hrun, rfl⟩

/-! The reconnect timer. -/

/-- A record with its poll timer as it is and its reconnect timer armed at `rem`. -/
abbrev Session.retrying (r : Session) (rem : Nat) : Session := { r with reconnect := ⟨true, rem⟩ }

theorem exec_tick_reconnect_count {n rem : Nat} {r : Session} {u : State} (hpoll : r.poll.armed = false)
    (hlive : u.Live n) (hrecord : u.session n = r.retrying (rem + 2)) :
    exec (.tick n) u = .next { u.setSession n (r.retrying (rem + 1)) with outcome := .done } := by
  rw [exec_tick_live hlive, tickTimers_reconnect_count (by rw [hrecord]; exact hpoll) (by rw [hrecord])
    (by rw [hrecord]; exact Nat.one_lt_succ_succ rem), hrecord]
  rfl

section Reconnect
variable {n k : Nat} {s : State} (hlive : s.Live n) (hpoll : (s.session n).poll.armed = false)
  (hrec : (s.session n).reconnect = ⟨true, k + 1⟩)
include hlive hpoll hrec

theorem run_ticks_reconnect_count {j : Nat} (hj : j ≤ k) : ∃ o, runInstrs (List.replicate j (.tick n)) s =
      .next { s.setSession n ((s.session n).retrying (k + 1 - j)) with outcome := o } :=
  run_ticks_count (record := (s.session n).retrying) (fun _ => hlive.2) (fun _ _ => exec_tick_reconnect_count hpoll)
    hlive.1 (by rw [Session.retrying, ← hrec]) hj

/-- R267: the tick that brings the count to 0 is the attempt, made from the record with the count at 1. -/
theorem run_ticks_reconnect_fire : ∃ (u : State) (o : StepOutcome),
    u = { s.setSession n ((s.session n).retrying 1) with outcome := o } ∧ u.Live n ∧
    u.session n = (s.session n).retrying 1 ∧
    runInstrs (List.replicate (k + 1) (.tick n)) s = finish u (reconnectFire n u) := by
  obtain ⟨o, hrun⟩ := run_ticks_reconnect_count hlive hpoll hrec (Nat.le_refl k)
  rw [Nat.add_sub_cancel_left] at hrun
  obtain ⟨u, hu⟩ : ∃ u : State, u = { s.setSession n ((s.session n).retrying 1) with outcome := o } := ⟨_, rfl⟩
  have hrecord : u.session n = (s.session n).retrying 1 := hu ▸ session_setSession_same _ hlive.1
  have hlive' : u.Live n := hu ▸ live_setSession hlive.1 hlive.2
  refine ⟨u, o, hu, hlive', hrecord, ?_⟩
  rw [List.replicate_succ', runInstrs_append _ hrun, runInstrs_singleton, ← hu, exec_tick_live hlive',
    tickTimers_reconnect_fire hlive'.1 (by rw [hrecord]; exact hpoll) (by rw [hrecord]) (by rw [hrecord])]

theorem run_ticks_reconnect_fail (hopen : s.nextOpen = false) :
    runInstrs (List.replicate (k + 1) (.tick n)) s = .next { s.afterOpen with
      sessions := s.sessions.set n ((s.session n).retrying s.cfg.reconnectInterval)
      outbox := s.outbox ++ [.openCall n (s.session n).iface, .diag (some n) .openFail (.iface (s.session n).iface)]
      outcome := .done } := by
  obtain ⟨u, o, hu, hlive', hrecord, hrun⟩ := run_ticks_reconnect_fire hlive hpoll hrec
  rw [hrun, reconnectFire_fail hlive'.1 (by rw [hu]; exact hopen), finish_ok, hrecord, hu]
  simp [State.setSession, State.afterOpen, armedTimer]

theorem run_ticks_reconnect_open {tbl : CrcTable} (hready : s.Ready tbl) (hopen : s.nextOpen = true) :
    runInstrs (List.replicate (k + 1) (.tick n)) s = .next { s.afterOpen.afterWrite.afterWrite with
      sessions := s.sessions.set n { s.session n with
        link := .connected, poll := ⟨true, s.cfg.pollInterval⟩, reconnect := ⟨false, 0⟩ }
      outbox := s.outbox ++ [.openCall n (s.session n).iface, .conn n true] ++
        pollOutputs tbl n s.afterOpen.nextWrite s.afterOpen.afterWrite.nextWrite
      outcome := .done } := by
  obtain ⟨u, o, hu, hlive', hrecord, hrun⟩ := run_ticks_reconnect_fire hlive hpoll hrec
  rw [hrun, reconnectFire_open (t := tbl) hlive'.1 (by rw [hu]; exact readyTable_eq_some.2 hready)
    (by rw [hu]; exact hopen), finish_ok, hrecord, hu]
  simp [State.setSession, State.afterOpen, State.afterWrite, State.nextWrite, armedTimer, disarmedTimer]

end Reconnect

/-- Settles O31: the count, and the attempt by what `open` returns. -/
theorem reconnectAttemptsAreSpaced : Obligations.ReconnectAttemptsAreSpaced := by
  rintro n k s _ hlive rfl hpoll hrec
  refine ⟨fun j hj => ?_,
    fun hopen => ⟨_, run_ticks_reconnect_fail hlive hpoll hrec hopen, rfl, session_setSession_same _ hlive.1⟩,
    fun tbl hready hopen =>
      ⟨_, run_ticks_reconnect_open hlive hpoll hrec hready hopen, rfl, session_setSession_same _ hlive.1⟩⟩
  obtain ⟨o, hrun⟩ := run_ticks_reconnect_count hlive hpoll hrec hj
  exact ⟨_, hrun, rfl⟩

/-! Two SETUPs for one interface. -/

/-- R180: SETUP of an inactive session on a free interface creates it, whatever `open` returns. -/
theorem exec_setup_creates {n : Nat} {iface : InterfaceId} {s : State} {tbl : CrcTable} (hn : n < s.nSessions)
    (hready : s.Ready tbl) (hinactive : (s.session n).active = false) (hfree : s.ifaceInUse n iface = false) :
    ∃ t r, exec (.setup n iface) s = .next t ∧ t.sessions = (s.setSession n r).sessions ∧ t.Ready tbl ∧
      r.active = true ∧ r.iface = some iface := by
  rw [exec_setup_inactive iface hn hready hinactive]
  cases hopen : s.nextOpen with
  | true =>
    rw [setupSession_open hn hfree (readyTable_eq_some.2 hready) hopen, finish_ok]
    exact ⟨_, _, rfl, rfl, hready, rfl, rfl⟩
  | false =>
    rw [setupSession_fail hn hfree hopen, finish_ok]
    exact ⟨_, _, rfl, rfl, hready, rfl, rfl⟩

/-- Settles O29: the created session holds the interface while it is active, and TEARDOWN leaves a reset record. -/
theorem secondSetupOnInterfaceFails : Obligations.SecondSetupOnInterfaceFails := by
  intro m n iface s t tbl hne hm hn hready hrn hrm hfree hsetup
  obtain ⟨t', r, hsetup', hset, htready, hactive, hiface⟩ :=
    exec_setup_creates hn hready (congrArg Session.active hrn) hfree
  obtain rfl := Host.Outcome.next.inj (hsetup.symm.trans hsetup')
  have hsession (k : Nat) : t.session k = if k = n then r else s.session k :=
    (session_congr hset k).trans (session_setSession r hn k)
  have htn : t.session n = r := by rw [hsession, if_pos rfl]
  have htm : t.session m = Session.reset := by rw [hsession, if_neg hne, hrm]
  have hlength : t.nSessions = s.nSessions := (congrArg List.length hset).trans (nSessions_setSession s n r)
  have hlive : t.Live n := ⟨hlength ▸ hn, by rw [htn, hactive]⟩
  have hused : t.ifaceInUse m iface = true := ifaceInUse_iff.2 ⟨n, hne.symm, hlive.2, by rw [htn, hiface]⟩
  refine ⟨hlive.2, ?_, ?_⟩
  · rw [exec_setup_inactive iface (hlength ▸ hm) htready (congrArg Session.active htm), setupSession_inUse hused]
    rfl
  · obtain ⟨v, hteardown, hvset, hvready⟩ : ∃ v, exec (.teardown n) t = .next v ∧
        v.sessions = (t.setSession n Session.reset).sessions ∧ v.Ready tbl :=
      ⟨_, exec_teardown_live hlive, rfl, htready⟩
    have hvsession (k : Nat) : v.session k = if k = n then Session.reset else t.session k :=
      (session_congr hvset k).trans (session_setSession _ hlive.1 k)
    have hvm : v.session m = Session.reset := by rw [hvsession, if_neg hne, htm]
    have hvlength : v.nSessions = t.nSessions := (congrArg List.length hvset).trans (nSessions_setSession t n _)
    have hvfree : v.ifaceInUse m iface = false := by
      refine Bool.eq_false_iff.2 fun hvused => ?_
      obtain ⟨k, -, hkactive, hkiface⟩ := ifaceInUse_iff.1 hvused
      by_cases hkn : k = n
      · rw [hvsession, if_pos hkn] at hkactive
        cases hkactive
      · rw [hvsession, if_neg hkn, hsession, if_neg hkn] at hkactive hkiface
        rw [ifaceInUse_iff.2 ⟨k, hkn, hkactive, hkiface⟩] at hfree
        cases hfree
    have hvm' : m < v.nSessions := by rw [hvlength, hlength]; exact hm
    obtain ⟨w, r', hw, hwset, -, hwactive, hwiface⟩ :=
      exec_setup_creates hvm' hvready (congrArg Session.active hvm) hvfree
    have hwm : w.session m = r' := (session_congr hwset m).trans (session_setSession_same r' hvm')
    exact ⟨v, w, hteardown, hw, by rw [hwm, hwactive], by rw [hwm, hwiface]⟩

end Sys2Proof.Machine
end

section
/-! PROOFS. An event but SETUP reads no other session's record (R31): putting other records in their place commutes with
every shared operation, and so with `exec`. -/

namespace Sys2Proof.Machine

/-- R187: the state in which a reconnect attempt of session `n` has its answer. -/
def State.attempt (n : Nat) (s : State) : State :=
  ((s.setSession n { s.session n with reconnect := disarmedTimer }).emit (.openCall n (s.session n).iface)).afterOpen

theorem nSessions_attempt (n : Nat) (s : State) : (s.attempt n).nSessions = s.nSessions :=
  nSessions_setSession s n _

theorem reconnectFire_of_open (n : Nat) {s : State} (hopen : s.nextOpen = true) :
    reconnectFire n s = enterConnected n (s.attempt n) := by
  simp only [reconnectFire, State.callOpen, nextOpen_setSession, hopen, if_true]
  rfl

theorem reconnectFire_of_not_open (n : Nat) {s : State} (hopen : s.nextOpen = false) :
    reconnectFire n s = .ok (openFailed n (s.session n).iface (s.attempt n)) := by
  simp only [reconnectFire, State.callOpen, nextOpen_setSession, hopen, Bool.false_eq_true, if_false]
  rfl

/-- The state `s` with the records of the sessions other than `n` taken from `ss`. -/
def State.withOthers (n : Nat) (ss : List Session) (s : State) : State :=
  { s with sessions := ss.set n (s.session n) }

section Others
variable {n : Nat} {ss : List Session} {s : State}

/-! What looks at no record but that of `n` commutes. -/

/-- A write of the record of `n` overwrites what `ss` has there. -/
theorem eq_withOthers_of_set {t u : State} {r : Session} (hn : n < s.nSessions)
    (hset : t.sessions = (s.setSession n r).sessions)
    (hu : u = { t with sessions := (ss.set n (s.session n)).set n r }) : u = t.withOthers n ss := by
  rw [hu, State.withOthers, session_congr hset, session_setSession_same r hn, List.set_set]

theorem setSession_withOthers (r : Session) (hn : n < s.nSessions) :
    (s.withOthers n ss).setSession n r = (s.setSession n r).withOthers n ss :=
  eq_withOthers_of_set hn rfl rfl

/-- R183: a poll looks at the table and the host's answers alone. -/
theorem poll_withOthers : poll n (s.withOthers n ss) = (poll n s).map (State.withOthers n ss) := by
  cases htable : s.readyTable with
  | none => rw [poll_not_ready n htable, poll_not_ready (s := s.withOthers n ss) n htable]; rfl
  | some t => rw [poll_eq n htable, poll_eq (s := s.withOthers n ss) n htable]; rfl

theorem withTable_withOthers {k k' : CrcTable → State} (h : ∀ t, k' t = (k t).withOthers n ss) :
    withTable (s.withOthers n ss) k' = (withTable s k).map (State.withOthers n ss) := by
  cases htable : s.readyTable with
  | none => rw [withTable_none k htable, withTable_none (s := s.withOthers n ss) k' htable]; rfl
  | some t => rw [withTable_some k htable, withTable_some (s := s.withOthers n ss) k' htable, h]; rfl

/-! The record of `n` itself is read back. -/

section Length
variable (hlength : ss.length = s.nSessions)
include hlength

theorem nSessions_withOthers : (s.withOthers n ss).nSessions = s.nSessions :=
  List.length_set.trans hlength

theorem session_withOthers : (s.withOthers n ss).session n = s.session n := by
  obtain hlt | hge := Nat.lt_or_ge n s.nSessions
  · have hin : n < State.nSessions { s with sessions := ss } := hlt.trans_eq hlength.symm
    exact session_setSession_same _ hin
  · rw [session_of_ge hge, session_of_ge (by rwa [nSessions_withOthers hlength])]

section Index
variable (hn : n < s.nSessions)
include hn

theorem pollFire_withOthers : pollFire n (s.withOthers n ss) = (pollFire n s).map (State.withOthers n ss) := by
  rw [pollFire, pollFire, session_withOthers hlength, setSession_withOthers _ hn]
  exact poll_withOthers

theorem enterConnected_withOthers :
    enterConnected n (s.withOthers n ss) = (enterConnected n s).map (State.withOthers n ss) := by
  have hn' : n < (s.withOthers n ss).nSessions := by rwa [nSessions_withOthers hlength]
  cases htable : s.readyTable with
  | none => rw [enterConnected_not_ready htable, enterConnected_not_ready (s := s.withOthers n ss) htable]; rfl
  | some t =>
    rw [enterConnected_eq hn htable, enterConnected_eq hn' htable, session_withOthers hlength]
    exact congrArg Except.ok (eq_withOthers_of_set hn rfl rfl)

theorem openFailed_withOthers (iface : Option InterfaceId) :
    openFailed n iface (s.withOthers n ss) = (openFailed n iface s).withOthers n ss := by
  simp only [openFailed, session_emit, session_withOthers hlength]
  exact eq_withOthers_of_set hn rfl rfl

theorem attempt_withOthers : (s.withOthers n ss).attempt n = (s.attempt n).withOthers n ss := by
  rw [State.attempt, session_withOthers hlength, setSession_withOthers _ hn]
  rfl

theorem reconnectFire_withOthers :
    reconnectFire n (s.withOthers n ss) = (reconnectFire n s).map (State.withOthers n ss) := by
  have hn' : n < (s.attempt n).nSessions := (nSessions_attempt n s).symm ▸ hn
  have hlength' : ss.length = (s.attempt n).nSessions := (nSessions_attempt n s).symm ▸ hlength
  cases hopen : s.nextOpen with
  | true =>
    rw [reconnectFire_of_open n hopen, reconnectFire_of_open (s := s.withOthers n ss) n hopen,
      attempt_withOthers hlength hn, enterConnected_withOthers hlength' hn']
  | false =>
    rw [reconnectFire_of_not_open n hopen, reconnectFire_of_not_open (s := s.withOthers n ss) n hopen,
      attempt_withOthers hlength hn, session_withOthers hlength, openFailed_withOthers hlength' hn']
    rfl

theorem tickTimers_withOthers :
    tickTimers n (s.withOthers n ss) = (tickTimers n s).map (State.withOthers n ss) := by
  simp only [tickTimers, session_withOthers hlength, setSession_withOthers _ hn]
  split_ifs
  · exact pollFire_withOthers (by simpa using hlength) (by simpa using hn)
  · rfl
  · exact reconnectFire_withOthers (by simpa using hlength) (by simpa using hn)
  · rfl
  · rfl

theorem transportLost_withOthers (e : ErrorCode) (info : DiagInfo) :
    transportLost n e info (s.withOthers n ss) = (transportLost n e info s).withOthers n ss := by
  rw [transportLost_eq, transportLost_eq, session_withOthers hlength]
  split
  · exact eq_withOthers_of_set hn rfl rfl
  · rfl

end Index

/-- CHECK and the test of `active` look at the number of records and the record of `n`. -/
theorem onActiveSession_withOthers {act act' : Except RefuseReason State} {t : State}
    (hact : n < s.nSessions → act' = act.map (State.withOthers n ss)) (h : onActiveSession n s act = .next t) :
    onActiveSession n (s.withOthers n ss) act' = .next (t.withOthers n ss) := by
  obtain hlt | hge := Nat.lt_or_ge n s.nSessions
  · have hlt' : n < (s.withOthers n ss).nSessions := by rwa [nSessions_withOthers hlength]
    cases hactive : (s.session n).active with
    | false =>
      rw [onActiveSession_of_inactive _ hlt hactive] at h
      cases h
      exact onActiveSession_of_inactive _ hlt' (by rw [session_withOthers hlength, hactive])
    | true =>
      rw [onActiveSession_of_active _ hlt hactive] at h
      rw [onActiveSession_of_active _ hlt' (by rw [session_withOthers hlength, hactive]), hact hlt]
      obtain ⟨u, rfl, rfl⟩ | ⟨r, rfl, rfl⟩ := finish_cases h
      · rfl
      · rfl
  · rw [onActiveSession_of_ge _ hge] at h
    cases h
    exact onActiveSession_of_ge _ (by rwa [nSessions_withOthers hlength])

/-- R31: the rows addressed to `n`, but SETUP. -/
theorem exec_withOthers {i : Instr} {t : State} (haddr : sessionOf i = some n) (hsetup : ∀ iface, i ≠ .setup n iface)
    (h : exec i s = .next t) : exec i (s.withOthers n ss) = .next (t.withOthers n ss) := by
  cases i with
  | setup _ iface =>
    cases haddr
    exact absurd rfl (hsetup iface)
  | reqTotalEnergy | reqCurrentPower | reqTesterId | reset | crcInit | crcCompute | build | parse => cases haddr
  | rspTotalEnergy | rspCurrentPower | rspNoDispatch | rspDecodeLen | rspUnknown | rspIllegal =>
    cases haddr
    exact onActiveSession_withOthers hlength (fun _ => withTable_withOthers fun _ => rfl) h
  | data m chunk =>
    cases haddr
    refine onActiveSession_withOthers hlength (fun _ => withTable_withOthers fun t => ?_) h
    cases parseFrame t chunk <;> rfl
  | tick => cases haddr; exact onActiveSession_withOthers hlength (tickTimers_withOthers hlength) h
  | error =>
    cases haddr
    exact onActiveSession_withOthers hlength
      (fun hn => congrArg Except.ok (transportLost_withOthers hlength hn _ _)) h
  | closed =>
    cases haddr
    exact onActiveSession_withOthers hlength
      (fun hn => congrArg Except.ok (transportLost_withOthers hlength hn _ _)) h
  | teardown =>
    cases haddr
    refine onActiveSession_withOthers hlength (fun hn => congrArg Except.ok ?_) h
    rw [session_withOthers hlength]
    split
    · exact setSession_withOthers (s := s.emit (.closeCall n)) _ hn
    · exact setSession_withOthers _ hn

end Length

end Others

/-- Settles O38: the second state is the first with its other records replaced, and so is what they become. -/
theorem otherSessionsUnread : Obligations.OtherSessionsUnread := by
  intro i n s s' t t' haddr hsetup hrest hcount hown h h'
  have hs' : s' = s.withOthers n s'.sessions := by
    have hself : s'.sessions.set n (s.session n) = s'.sessions := by
      rw [← hown]
      exact congrArg State.sessions (setSession_session s' n)
    rw [State.withOthers, hself]
    exact hrest
  rw [hs', exec_withOthers hcount haddr hsetup h] at h'
  obtain rfl := Host.Outcome.next.inj h'
  have hlength : s'.sessions.length = t.nSessions := hcount.trans (exec_ran h).nSessions.symm
  exact ⟨rfl, session_withOthers hlength⟩

end Sys2Proof.Machine
end
